-- ==== Sys2Proof/Word.lean ====
section
/-! DEFINITION. Word.lean: the two widths the machine computes with (R7, R9). -/

namespace Sys2Proof

/-- One byte: the CPU's data width and the width of a memory location (R7, R200). -/
abbrev Byte := BitVec 8

/-- A 16-bit CPU address (R7, R200). -/
abbrev Word := BitVec 16

end Sys2Proof
end

