-- ==== Sys2Proof/Config.lean ====
section
/-! DEFINITION. Config.lean: the free values of the spec (R8): constants with no body, so that no
proof can see what they are.

The other open parameters of R8 are arguments of the power cycle (POWERUP_FILL, SAMPLE_PERIOD:
`State.powerCycle`); the decided parameters of R8 (ILLEGAL_POLICY, ODD_FRAME_SKIP, DMC_STALL,
FRAME_RESET_DELAY, DMA_PARITY) are definitions of the files under Machine/ that use them. -/

namespace Sys2Proof

/-- One RGB triple of the frame sink's picture (R1080). -/
structure Rgb where
  r : Byte
  g : Byte
  b : Byte
deriving DecidableEq, Repr, Inhabited

/-- UNMAPPED_READ (R213, D15): the byte the n-th read of unmapped CPU space gives at an address.
A free value; `State.draws` is the counter, so each read draws afresh. Log entry 5. -/
opaque Config.unmappedRead : Nat → Word → Byte

/-- SYSTEM_PALETTE (R1080, D44): colour index and emphasis bits to RGB. A free value. Log entry 6. -/
opaque Config.systemPalette : BitVec 6 → BitVec 3 → Rgb

/-- The byte at a program address when the image holds no whole bank of the variant's window size: R1405
gives no bank number then (`req mod 0`). A free value. Log entry 15. -/
opaque Config.absentPrg : Nat → Byte

end Sys2Proof
end

