-- ==== Sys2Proof/Syntax.lean ====
section
/-! DEFINITION. Syntax.lean: the instruction set as syntax (R300, R310, R320, R321, R331).

`Instr` has one constructor per mnemonic of the opcode table, and the addressing mode of a row, with
its operand bytes, is the constructor's `Form` argument (or, where the mnemonic has one mode only, the
operand itself). Every one of the 256 rows is a term. Where several rows share mnemonic and mode
(R332: the unofficial NOPs, JAM, ANC) the constructor also carries the opcode byte; the official NOP
($EA) and SBC $EB have constructors of their own. Log entry 17 says why the rows of one mnemonic share
a constructor. -/

namespace Sys2Proof

/-- The thirteen addressing modes (R310). -/
inductive Mode where
  | imp | acc | imm | zp | zpx | zpy | abs | abx | aby | ind | izx | izy | rel
deriving DecidableEq, Repr

/-- The four classes of R330, and the documented opcodes. -/
inductive OpClass where
  | official     -- the 151 documented opcodes
  | unofficialA  -- set A: executes
  | unofficialB  -- set B: executes
  | unstable     -- set U: refused at fetch
  | jam          -- halts the CPU
deriving DecidableEq, Repr

/-- An addressing mode with the operand bytes it takes from the instruction (R300, R310). -/
inductive Form where
  | imp
  | acc
  | imm (b : Byte)
  | zp  (z : Byte)
  | zpx (z : Byte)
  | zpy (z : Byte)
  | abs (a : Word)
  | abx (a : Word)
  | aby (a : Word)
  | ind (a : Word)
  | izx (z : Byte)
  | izy (z : Byte)
  | rel (d : Byte)
deriving DecidableEq, Repr

/-- The addressing mode of a form. -/
def Form.mode : Form → Mode
  | .imp => .imp | .acc => .acc | .imm _ => .imm | .zp _ => .zp | .zpx _ => .zpx | .zpy _ => .zpy
  | .abs _ => .abs | .abx _ => .abx | .aby _ => .aby | .ind _ => .ind
  | .izx _ => .izx | .izy _ => .izy | .rel _ => .rel

/-- The instructions. The docstring of each constructor lists its opcodes with their modes (R321). -/
inductive Instr where
  -- Loads, stores, transfers and the stack (41_load_store.md)
  /-- LDA: load A (R510): $A1 IZX, $A5 ZP, $A9 IMM, $AD ABS, $B1 IZY, $B5 ZPX, $B9 ABY, $BD ABX -/
  | lda (f : Form)
  /-- LDX: load X (R511): $A2 IMM, $A6 ZP, $AE ABS, $B6 ZPY, $BE ABY -/
  | ldx (f : Form)
  /-- LDY: load Y (R512): $A0 IMM, $A4 ZP, $AC ABS, $B4 ZPX, $BC ABX -/
  | ldy (f : Form)
  /-- STA: store A (R513): $81 IZX, $85 ZP, $8D ABS, $91 IZY, $95 ZPX, $99 ABY, $9D ABX -/
  | sta (f : Form)
  /-- STX: store X (R514): $86 ZP, $8E ABS, $96 ZPY -/
  | stx (f : Form)
  /-- STY: store Y (R515): $84 ZP, $8C ABS, $94 ZPX -/
  | sty (f : Form)
  /-- TAX: X <- A (R520): $AA IMP -/
  | tax
  /-- TAY: Y <- A (R521): $A8 IMP -/
  | tay
  /-- TXA: A <- X (R522): $8A IMP -/
  | txa
  /-- TYA: A <- Y (R523): $98 IMP -/
  | tya
  /-- TSX: X <- S (R524): $BA IMP -/
  | tsx
  /-- TXS: S <- X (R525): $9A IMP -/
  | txs
  /-- PHA: push A (R530): $48 IMP -/
  | pha
  /-- PHP: push P (R531): $08 IMP -/
  | php
  /-- PLA: pull A (R532): $68 IMP -/
  | pla
  /-- PLP: pull P (R533): $28 IMP -/
  | plp
  -- Arithmetic, logic, compares, increments and shifts (42_arith_logic.md)
  /-- ADC: add with carry (R610): $61 IZX, $65 ZP, $69 IMM, $6D ABS, $71 IZY, $75 ZPX, $79 ABY, $7D ABX -/
  | adc (f : Form)
  /-- SBC: subtract with borrow (R611): $E1 IZX, $E5 ZP, $E9 IMM, $ED ABS, $F1 IZY, $F5 ZPX, $F9 ABY, $FD ABX -/
  | sbc (f : Form)
  /-- AND: and with A (R612): $21 IZX, $25 ZP, $29 IMM, $2D ABS, $31 IZY, $35 ZPX, $39 ABY, $3D ABX -/
  | and (f : Form)
  /-- ORA: or with A (R613): $01 IZX, $05 ZP, $09 IMM, $0D ABS, $11 IZY, $15 ZPX, $19 ABY, $1D ABX -/
  | ora (f : Form)
  /-- EOR: exclusive or with A (R614): $41 IZX, $45 ZP, $49 IMM, $4D ABS, $51 IZY, $55 ZPX, $59 ABY, $5D ABX -/
  | eor (f : Form)
  /-- BIT: test bits (R615): $24 ZP, $2C ABS -/
  | bit (f : Form)
  /-- CMP: compare A (R620): $C1 IZX, $C5 ZP, $C9 IMM, $CD ABS, $D1 IZY, $D5 ZPX, $D9 ABY, $DD ABX -/
  | cmp (f : Form)
  /-- CPX: compare X (R621): $E0 IMM, $E4 ZP, $EC ABS -/
  | cpx (f : Form)
  /-- CPY: compare Y (R622): $C0 IMM, $C4 ZP, $CC ABS -/
  | cpy (f : Form)
  /-- INC: increment memory (R630): $E6 ZP, $EE ABS, $F6 ZPX, $FE ABX -/
  | inc (f : Form)
  /-- DEC: decrement memory (R631): $C6 ZP, $CE ABS, $D6 ZPX, $DE ABX -/
  | dec (f : Form)
  /-- INX: X + 1 (R632): $E8 IMP -/
  | inx
  /-- INY: Y + 1 (R633): $C8 IMP -/
  | iny
  /-- DEX: X - 1 (R634): $CA IMP -/
  | dex
  /-- DEY: Y - 1 (R635): $88 IMP -/
  | dey
  /-- ASL: arithmetic shift left (R640): $06 ZP, $0A ACC, $0E ABS, $16 ZPX, $1E ABX -/
  | asl (f : Form)
  /-- LSR: logical shift right (R641): $46 ZP, $4A ACC, $4E ABS, $56 ZPX, $5E ABX -/
  | lsr (f : Form)
  /-- ROL: rotate left through C (R642): $26 ZP, $2A ACC, $2E ABS, $36 ZPX, $3E ABX -/
  | rol (f : Form)
  /-- ROR: rotate right through C (R643): $66 ZP, $6A ACC, $6E ABS, $76 ZPX, $7E ABX -/
  | ror (f : Form)
  -- Control transfer, branches, flags and NOP (43_control_flags.md)
  /-- JMP: jump (R701, R702): $4C ABS, $6C IND -/
  | jmp (f : Form)
  /-- JSR: jump to subroutine (R703): $20 ABS -/
  | jsr (a : Word)
  /-- RTS: return from subroutine (R704): $60 IMP -/
  | rts
  /-- RTI: return from interrupt (R705): $40 IMP -/
  | rti
  /-- BRK: software interrupt (R706): $00 IMP -/
  | brk
  /-- BPL: branch if N = 0 (R710): $10 REL -/
  | bpl (d : Byte)
  /-- BMI: branch if N = 1 (R711): $30 REL -/
  | bmi (d : Byte)
  /-- BVC: branch if V = 0 (R712): $50 REL -/
  | bvc (d : Byte)
  /-- BVS: branch if V = 1 (R713): $70 REL -/
  | bvs (d : Byte)
  /-- BCC: branch if C = 0 (R714): $90 REL -/
  | bcc (d : Byte)
  /-- BCS: branch if C = 1 (R715): $B0 REL -/
  | bcs (d : Byte)
  /-- BNE: branch if Z = 0 (R716): $D0 REL -/
  | bne (d : Byte)
  /-- BEQ: branch if Z = 1 (R717): $F0 REL -/
  | beq (d : Byte)
  /-- CLC: C <- 0 (R720): $18 IMP -/
  | clc
  /-- SEC: C <- 1 (R721): $38 IMP -/
  | sec
  /-- CLI: I <- 0 (R722): $58 IMP -/
  | cli
  /-- SEI: I <- 1 (R723): $78 IMP -/
  | sei
  /-- CLD: D <- 0 (R724): $D8 IMP -/
  | cld
  /-- SED: D <- 1 (R725): $F8 IMP -/
  | sed
  /-- CLV: V <- 0 (R726): $B8 IMP -/
  | clv
  /-- NOP: no operation (R730): $EA IMP -/
  | nop
  -- Unofficial opcodes (44_illegal.md)
  /-- LAX: load A and X (R810): $A3 IZX, $A7 ZP, $AF ABS, $B3 IZY, $B7 ZPY, $BF ABY -/
  | lax (f : Form)
  /-- SAX: store A and X (R811): $83 IZX, $87 ZP, $8F ABS, $97 ZPY -/
  | sax (f : Form)
  /-- DCP: decrement memory, compare with A (R812): $C3 IZX, $C7 ZP, $CF ABS, $D3 IZY, $D7 ZPX, $DB ABY, $DF ABX -/
  | dcp (f : Form)
  /-- ISC: increment memory, subtract from A (R813): $E3 IZX, $E7 ZP, $EF ABS, $F3 IZY, $F7 ZPX, $FB ABY, $FF ABX -/
  | isc (f : Form)
  /-- SLO: shift memory left, or into A (R814): $03 IZX, $07 ZP, $0F ABS, $13 IZY, $17 ZPX, $1B ABY, $1F ABX -/
  | slo (f : Form)
  /-- RLA: rotate memory left, and into A (R815): $23 IZX, $27 ZP, $2F ABS, $33 IZY, $37 ZPX, $3B ABY, $3F ABX -/
  | rla (f : Form)
  /-- SRE: shift memory right, exclusive or into A (R816): $43 IZX, $47 ZP, $4F ABS, $53 IZY, $57 ZPX, $5B ABY, $5F ABX -/
  | sre (f : Form)
  /-- RRA: rotate memory right, add to A (R817): $63 IZX, $67 ZP, $6F ABS, $73 IZY, $77 ZPX, $7B ABY, $7F ABX -/
  | rra (f : Form)
  /-- NOP: unofficial NOP (R820): $04 ZP, $0C ABS, $14 ZPX, $1A IMP, $1C ABX, $34 ZPX, $3A IMP, $3C ABX, $44 ZP, $54 ZPX, $5A IMP, $5C ABX, $64 ZP, $74 ZPX, $7A IMP, $7C ABX, $80 IMM, $82 IMM, $89 IMM, $C2 IMM, $D4 ZPX, $DA IMP, $DC ABX, $E2 IMM, $F4 ZPX, $FA IMP, $FC ABX -/
  | nopAlt (op : Byte) (f : Form)
  /-- SBC: duplicate of SBC immediate (R821): $EB IMM -/
  | sbcAlt (b : Byte)
  /-- ANC: and immediate, N into C (R830): $0B IMM, $2B IMM -/
  | anc (op : Byte) (b : Byte)
  /-- ALR: and immediate, shift right (R831): $4B IMM -/
  | alr (b : Byte)
  /-- ARR: and immediate, rotate right (R832): $6B IMM -/
  | arr (b : Byte)
  /-- SBX: X <- (A and X) - immediate (R833): $CB IMM -/
  | sbx (b : Byte)
  /-- LAS: A, X, S <- memory and S (R834): $BB ABY -/
  | las (a : Word)
  /-- XAA: unstable (R840): $8B IMM -/
  | xaa (b : Byte)
  /-- LXA: unstable (R841): $AB IMM -/
  | lxa (b : Byte)
  /-- SHA: unstable (R842): $93 IZY, $9F ABY -/
  | sha (f : Form)
  /-- SHX: unstable (R843): $9E ABY -/
  | shx (a : Word)
  /-- SHY: unstable (R844): $9C ABX -/
  | shy (a : Word)
  /-- TAS: unstable (R845): $9B ABY -/
  | tas (a : Word)
  /-- JAM: halt the CPU (R860): $02 IMP, $12 IMP, $22 IMP, $32 IMP, $42 IMP, $52 IMP, $62 IMP, $72 IMP, $92 IMP, $B2 IMP, $D2 IMP, $F2 IMP -/
  | jam (op : Byte)
deriving DecidableEq, Repr

end Sys2Proof
end

