-- ==== Sys2Proof/WellFormed.lean ====
section
/-! DEFINITION. WellFormed.lean: which terms of `Instr` are instructions of the opcode table: the
mode is one the mnemonic has, and an opcode byte the term carries is one of its rows (R321). Also
which branch targets an instruction can reach (R350). -/

namespace Sys2Proof

/-- The modes of the read instructions LDA, ADC, SBC, AND, ORA, EOR, CMP (R510, R610-R614, R620). -/
def readModes : List Mode := [.imm, .zp, .zpx, .abs, .abx, .aby, .izx, .izy]

/-- The modes of the shifts (R640-R643). -/
def shiftModes : List Mode := [.acc, .zp, .zpx, .abs, .abx]

/-- The modes of the unofficial read-modify-write instructions (R812-R817). -/
def rmwModes : List Mode := [.zp, .zpx, .abs, .abx, .aby, .izx, .izy]

/-- The opcodes of JAM (R860). -/
def jamOpcodes : List Byte :=
  [0x02, 0x12, 0x22, 0x32, 0x42, 0x52, 0x62, 0x72, 0x92, 0xB2, 0xD2, 0xF2]

/-- The opcodes of the unofficial NOPs in each mode (R820). -/
def nopOpcodes : Mode → List Byte
  | .imp => [0x1A, 0x3A, 0x5A, 0x7A, 0xDA, 0xFA]
  | .imm => [0x80, 0x82, 0x89, 0xC2, 0xE2]
  | .zp => [0x04, 0x44, 0x64]
  | .zpx => [0x14, 0x34, 0x54, 0x74, 0xD4, 0xF4]
  | .abs => [0x0C]
  | .abx => [0x1C, 0x3C, 0x5C, 0x7C, 0xDC, 0xFC]
  | _ => []

/-- The term is an instruction of the opcode table (R321). The implied instructions and those whose
operand is carried as a byte or an address have nothing to check. -/
def Instr.wellFormed : Instr → Bool
  | .lda f | .adc f | .sbc f | .and f | .ora f | .eor f | .cmp f => readModes.contains f.mode
  | .ldx f => [Mode.imm, .zp, .zpy, .abs, .aby].contains f.mode
  | .ldy f => [Mode.imm, .zp, .zpx, .abs, .abx].contains f.mode
  | .sta f => [Mode.zp, .zpx, .abs, .abx, .aby, .izx, .izy].contains f.mode
  | .stx f => [Mode.zp, .zpy, .abs].contains f.mode
  | .sty f => [Mode.zp, .zpx, .abs].contains f.mode
  | .bit f => [Mode.zp, .abs].contains f.mode
  | .cpx f | .cpy f => [Mode.imm, .zp, .abs].contains f.mode
  | .inc f | .dec f => [Mode.zp, .zpx, .abs, .abx].contains f.mode
  | .asl f | .lsr f | .rol f | .ror f => shiftModes.contains f.mode
  | .jmp f => [Mode.abs, .ind].contains f.mode
  | .lax f => [Mode.zp, .zpy, .abs, .aby, .izx, .izy].contains f.mode
  | .sax f => [Mode.zp, .zpy, .abs, .izx].contains f.mode
  | .dcp f | .isc f | .slo f | .rla f | .sre f | .rra f => rmwModes.contains f.mode
  | .nopAlt op f => (nopOpcodes f.mode).contains op
  | .anc op _ => [(0x0B : Byte), 0x2B].contains op
  | .sha f => [Mode.izy, .aby].contains f.mode
  | .jam op => jamOpcodes.contains op
  | .tax | .tay | .txa | .tya | .tsx | .txs | .pha | .php | .pla | .plp | .inx | .iny
  | .dex | .dey | .jsr _ | .rts | .rti | .brk | .bpl _ | .bmi _ | .bvc _ | .bvs _ | .bcc _
  | .bcs _ | .bne _ | .beq _ | .clc | .sec | .cli | .sei | .cld | .sed | .clv | .nop
  | .sbcAlt _ | .alr _ | .arr _ | .sbx _ | .las _ | .xaa _ | .lxa _ | .shx _ | .shy _
  | .tas _ => true

/-- The offset byte of a branch at `pc0` to `target`, where there is one: the assembler 'rejects the
branch if that is outside -128..127' (R350). -/
def branchOffset? (pc0 target : Word) : Option Byte :=
  let d : Int := (target - (pc0 + 2)).toInt
  if -128 ≤ d ∧ d ≤ 127 then some (BitVec.ofInt 8 d) else none

end Sys2Proof
end

