-- ==== Sys2Proof/Decode.lean ====
section
/-! DEFINITION. Decode.lean: the opcode table (R320, R321), the decoder it gives (R301, R402: a lookup
of the opcode byte and nothing else), and after it the encoder, written from the opcode lists of the
instructions' own rules (R510-R860). Also the byte-order and sign-extension helpers they and the
machine use (R9, R10, R220). -/

namespace Sys2Proof

/-! ## Byte order and extension -/

/-- `hi:lo`, the 16-bit value whose low byte is `lo` (R9, R220). -/
def word16 (lo hi : Byte) : Word := hi ++ lo

/-- Bits 7..0 of a 16-bit value (R9). -/
def lowByte (w : Word) : Byte := w.setWidth 8

/-- Bits 15..8 of a 16-bit value (R9). -/
def highByte (w : Word) : Byte := (w >>> 8).setWidth 8

/-- `zext_16` (R10). -/
def zext16 (b : Byte) : Word := b.setWidth 16

/-- `sext_16` (R10). -/
def sext16 (b : Byte) : Word := b.signExtend 16

/-! ## The opcode table -/

/-- One row of the opcode table (R321). `make` builds the instruction from the bytes after the opcode
(the second is the high byte of a 16-bit operand, R300); `base` and `page` are the columns 'base
cycles' and '+1 on page cross'. -/
structure OpRow where
  make : Byte → Byte → Instr
  mode : Mode
  base : Nat
  page : Bool
  cls  : OpClass

/-- The length an addressing mode gives an instruction (R300, R301). -/
def Mode.length : Mode → Nat
  | .imp | .acc => 1
  | .imm | .zp | .zpx | .zpy | .izx | .izy | .rel => 2
  | .abs | .abx | .aby | .ind => 3

/-- The `length` column of R321. -/
def OpRow.length (r : OpRow) : Nat := r.mode.length

/-- Row 0x of the opcode map (R320), columns x0 to xF. -/
def opRow0 : List OpRow := [
  ⟨fun _ _ => .brk, .imp, 7, false, .official⟩,
  ⟨fun b _ => .ora (.izx b), .izx, 6, false, .official⟩,
  ⟨fun _ _ => .jam 0x02, .imp, 2, false, .jam⟩,
  ⟨fun b _ => .slo (.izx b), .izx, 8, false, .unofficialA⟩,
  ⟨fun b _ => .nopAlt 0x04 (.zp b), .zp, 3, false, .unofficialA⟩,
  ⟨fun b _ => .ora (.zp b), .zp, 3, false, .official⟩,
  ⟨fun b _ => .asl (.zp b), .zp, 5, false, .official⟩,
  ⟨fun b _ => .slo (.zp b), .zp, 5, false, .unofficialA⟩,
  ⟨fun _ _ => .php, .imp, 3, false, .official⟩,
  ⟨fun b _ => .ora (.imm b), .imm, 2, false, .official⟩,
  ⟨fun _ _ => .asl .acc, .acc, 2, false, .official⟩,
  ⟨fun b _ => .anc 0x0B b, .imm, 2, false, .unofficialB⟩,
  ⟨fun b h => .nopAlt 0x0C (.abs (word16 b h)), .abs, 4, false, .unofficialA⟩,
  ⟨fun b h => .ora (.abs (word16 b h)), .abs, 4, false, .official⟩,
  ⟨fun b h => .asl (.abs (word16 b h)), .abs, 6, false, .official⟩,
  ⟨fun b h => .slo (.abs (word16 b h)), .abs, 6, false, .unofficialA⟩]

/-- Row 1x of the opcode map (R320), columns x0 to xF. -/
def opRow1 : List OpRow := [
  ⟨fun b _ => .bpl b, .rel, 2, false, .official⟩,
  ⟨fun b _ => .ora (.izy b), .izy, 5, true, .official⟩,
  ⟨fun _ _ => .jam 0x12, .imp, 2, false, .jam⟩,
  ⟨fun b _ => .slo (.izy b), .izy, 8, false, .unofficialA⟩,
  ⟨fun b _ => .nopAlt 0x14 (.zpx b), .zpx, 4, false, .unofficialA⟩,
  ⟨fun b _ => .ora (.zpx b), .zpx, 4, false, .official⟩,
  ⟨fun b _ => .asl (.zpx b), .zpx, 6, false, .official⟩,
  ⟨fun b _ => .slo (.zpx b), .zpx, 6, false, .unofficialA⟩,
  ⟨fun _ _ => .clc, .imp, 2, false, .official⟩,
  ⟨fun b h => .ora (.aby (word16 b h)), .aby, 4, true, .official⟩,
  ⟨fun _ _ => .nopAlt 0x1A .imp, .imp, 2, false, .unofficialA⟩,
  ⟨fun b h => .slo (.aby (word16 b h)), .aby, 7, false, .unofficialA⟩,
  ⟨fun b h => .nopAlt 0x1C (.abx (word16 b h)), .abx, 4, true, .unofficialA⟩,
  ⟨fun b h => .ora (.abx (word16 b h)), .abx, 4, true, .official⟩,
  ⟨fun b h => .asl (.abx (word16 b h)), .abx, 7, false, .official⟩,
  ⟨fun b h => .slo (.abx (word16 b h)), .abx, 7, false, .unofficialA⟩]

/-- Row 2x of the opcode map (R320), columns x0 to xF. -/
def opRow2 : List OpRow := [
  ⟨fun b h => .jsr (word16 b h), .abs, 6, false, .official⟩,
  ⟨fun b _ => .and (.izx b), .izx, 6, false, .official⟩,
  ⟨fun _ _ => .jam 0x22, .imp, 2, false, .jam⟩,
  ⟨fun b _ => .rla (.izx b), .izx, 8, false, .unofficialA⟩,
  ⟨fun b _ => .bit (.zp b), .zp, 3, false, .official⟩,
  ⟨fun b _ => .and (.zp b), .zp, 3, false, .official⟩,
  ⟨fun b _ => .rol (.zp b), .zp, 5, false, .official⟩,
  ⟨fun b _ => .rla (.zp b), .zp, 5, false, .unofficialA⟩,
  ⟨fun _ _ => .plp, .imp, 4, false, .official⟩,
  ⟨fun b _ => .and (.imm b), .imm, 2, false, .official⟩,
  ⟨fun _ _ => .rol .acc, .acc, 2, false, .official⟩,
  ⟨fun b _ => .anc 0x2B b, .imm, 2, false, .unofficialB⟩,
  ⟨fun b h => .bit (.abs (word16 b h)), .abs, 4, false, .official⟩,
  ⟨fun b h => .and (.abs (word16 b h)), .abs, 4, false, .official⟩,
  ⟨fun b h => .rol (.abs (word16 b h)), .abs, 6, false, .official⟩,
  ⟨fun b h => .rla (.abs (word16 b h)), .abs, 6, false, .unofficialA⟩]

/-- Row 3x of the opcode map (R320), columns x0 to xF. -/
def opRow3 : List OpRow := [
  ⟨fun b _ => .bmi b, .rel, 2, false, .official⟩,
  ⟨fun b _ => .and (.izy b), .izy, 5, true, .official⟩,
  ⟨fun _ _ => .jam 0x32, .imp, 2, false, .jam⟩,
  ⟨fun b _ => .rla (.izy b), .izy, 8, false, .unofficialA⟩,
  ⟨fun b _ => .nopAlt 0x34 (.zpx b), .zpx, 4, false, .unofficialA⟩,
  ⟨fun b _ => .and (.zpx b), .zpx, 4, false, .official⟩,
  ⟨fun b _ => .rol (.zpx b), .zpx, 6, false, .official⟩,
  ⟨fun b _ => .rla (.zpx b), .zpx, 6, false, .unofficialA⟩,
  ⟨fun _ _ => .sec, .imp, 2, false, .official⟩,
  ⟨fun b h => .and (.aby (word16 b h)), .aby, 4, true, .official⟩,
  ⟨fun _ _ => .nopAlt 0x3A .imp, .imp, 2, false, .unofficialA⟩,
  ⟨fun b h => .rla (.aby (word16 b h)), .aby, 7, false, .unofficialA⟩,
  ⟨fun b h => .nopAlt 0x3C (.abx (word16 b h)), .abx, 4, true, .unofficialA⟩,
  ⟨fun b h => .and (.abx (word16 b h)), .abx, 4, true, .official⟩,
  ⟨fun b h => .rol (.abx (word16 b h)), .abx, 7, false, .official⟩,
  ⟨fun b h => .rla (.abx (word16 b h)), .abx, 7, false, .unofficialA⟩]

/-- Row 4x of the opcode map (R320), columns x0 to xF. -/
def opRow4 : List OpRow := [
  ⟨fun _ _ => .rti, .imp, 6, false, .official⟩,
  ⟨fun b _ => .eor (.izx b), .izx, 6, false, .official⟩,
  ⟨fun _ _ => .jam 0x42, .imp, 2, false, .jam⟩,
  ⟨fun b _ => .sre (.izx b), .izx, 8, false, .unofficialA⟩,
  ⟨fun b _ => .nopAlt 0x44 (.zp b), .zp, 3, false, .unofficialA⟩,
  ⟨fun b _ => .eor (.zp b), .zp, 3, false, .official⟩,
  ⟨fun b _ => .lsr (.zp b), .zp, 5, false, .official⟩,
  ⟨fun b _ => .sre (.zp b), .zp, 5, false, .unofficialA⟩,
  ⟨fun _ _ => .pha, .imp, 3, false, .official⟩,
  ⟨fun b _ => .eor (.imm b), .imm, 2, false, .official⟩,
  ⟨fun _ _ => .lsr .acc, .acc, 2, false, .official⟩,
  ⟨fun b _ => .alr b, .imm, 2, false, .unofficialB⟩,
  ⟨fun b h => .jmp (.abs (word16 b h)), .abs, 3, false, .official⟩,
  ⟨fun b h => .eor (.abs (word16 b h)), .abs, 4, false, .official⟩,
  ⟨fun b h => .lsr (.abs (word16 b h)), .abs, 6, false, .official⟩,
  ⟨fun b h => .sre (.abs (word16 b h)), .abs, 6, false, .unofficialA⟩]

/-- Row 5x of the opcode map (R320), columns x0 to xF. -/
def opRow5 : List OpRow := [
  ⟨fun b _ => .bvc b, .rel, 2, false, .official⟩,
  ⟨fun b _ => .eor (.izy b), .izy, 5, true, .official⟩,
  ⟨fun _ _ => .jam 0x52, .imp, 2, false, .jam⟩,
  ⟨fun b _ => .sre (.izy b), .izy, 8, false, .unofficialA⟩,
  ⟨fun b _ => .nopAlt 0x54 (.zpx b), .zpx, 4, false, .unofficialA⟩,
  ⟨fun b _ => .eor (.zpx b), .zpx, 4, false, .official⟩,
  ⟨fun b _ => .lsr (.zpx b), .zpx, 6, false, .official⟩,
  ⟨fun b _ => .sre (.zpx b), .zpx, 6, false, .unofficialA⟩,
  ⟨fun _ _ => .cli, .imp, 2, false, .official⟩,
  ⟨fun b h => .eor (.aby (word16 b h)), .aby, 4, true, .official⟩,
  ⟨fun _ _ => .nopAlt 0x5A .imp, .imp, 2, false, .unofficialA⟩,
  ⟨fun b h => .sre (.aby (word16 b h)), .aby, 7, false, .unofficialA⟩,
  ⟨fun b h => .nopAlt 0x5C (.abx (word16 b h)), .abx, 4, true, .unofficialA⟩,
  ⟨fun b h => .eor (.abx (word16 b h)), .abx, 4, true, .official⟩,
  ⟨fun b h => .lsr (.abx (word16 b h)), .abx, 7, false, .official⟩,
  ⟨fun b h => .sre (.abx (word16 b h)), .abx, 7, false, .unofficialA⟩]

/-- Row 6x of the opcode map (R320), columns x0 to xF. -/
def opRow6 : List OpRow := [
  ⟨fun _ _ => .rts, .imp, 6, false, .official⟩,
  ⟨fun b _ => .adc (.izx b), .izx, 6, false, .official⟩,
  ⟨fun _ _ => .jam 0x62, .imp, 2, false, .jam⟩,
  ⟨fun b _ => .rra (.izx b), .izx, 8, false, .unofficialA⟩,
  ⟨fun b _ => .nopAlt 0x64 (.zp b), .zp, 3, false, .unofficialA⟩,
  ⟨fun b _ => .adc (.zp b), .zp, 3, false, .official⟩,
  ⟨fun b _ => .ror (.zp b), .zp, 5, false, .official⟩,
  ⟨fun b _ => .rra (.zp b), .zp, 5, false, .unofficialA⟩,
  ⟨fun _ _ => .pla, .imp, 4, false, .official⟩,
  ⟨fun b _ => .adc (.imm b), .imm, 2, false, .official⟩,
  ⟨fun _ _ => .ror .acc, .acc, 2, false, .official⟩,
  ⟨fun b _ => .arr b, .imm, 2, false, .unofficialB⟩,
  ⟨fun b h => .jmp (.ind (word16 b h)), .ind, 5, false, .official⟩,
  ⟨fun b h => .adc (.abs (word16 b h)), .abs, 4, false, .official⟩,
  ⟨fun b h => .ror (.abs (word16 b h)), .abs, 6, false, .official⟩,
  ⟨fun b h => .rra (.abs (word16 b h)), .abs, 6, false, .unofficialA⟩]

/-- Row 7x of the opcode map (R320), columns x0 to xF. -/
def opRow7 : List OpRow := [
  ⟨fun b _ => .bvs b, .rel, 2, false, .official⟩,
  ⟨fun b _ => .adc (.izy b), .izy, 5, true, .official⟩,
  ⟨fun _ _ => .jam 0x72, .imp, 2, false, .jam⟩,
  ⟨fun b _ => .rra (.izy b), .izy, 8, false, .unofficialA⟩,
  ⟨fun b _ => .nopAlt 0x74 (.zpx b), .zpx, 4, false, .unofficialA⟩,
  ⟨fun b _ => .adc (.zpx b), .zpx, 4, false, .official⟩,
  ⟨fun b _ => .ror (.zpx b), .zpx, 6, false, .official⟩,
  ⟨fun b _ => .rra (.zpx b), .zpx, 6, false, .unofficialA⟩,
  ⟨fun _ _ => .sei, .imp, 2, false, .official⟩,
  ⟨fun b h => .adc (.aby (word16 b h)), .aby, 4, true, .official⟩,
  ⟨fun _ _ => .nopAlt 0x7A .imp, .imp, 2, false, .unofficialA⟩,
  ⟨fun b h => .rra (.aby (word16 b h)), .aby, 7, false, .unofficialA⟩,
  ⟨fun b h => .nopAlt 0x7C (.abx (word16 b h)), .abx, 4, true, .unofficialA⟩,
  ⟨fun b h => .adc (.abx (word16 b h)), .abx, 4, true, .official⟩,
  ⟨fun b h => .ror (.abx (word16 b h)), .abx, 7, false, .official⟩,
  ⟨fun b h => .rra (.abx (word16 b h)), .abx, 7, false, .unofficialA⟩]

/-- Row 8x of the opcode map (R320), columns x0 to xF. -/
def opRow8 : List OpRow := [
  ⟨fun b _ => .nopAlt 0x80 (.imm b), .imm, 2, false, .unofficialA⟩,
  ⟨fun b _ => .sta (.izx b), .izx, 6, false, .official⟩,
  ⟨fun b _ => .nopAlt 0x82 (.imm b), .imm, 2, false, .unofficialA⟩,
  ⟨fun b _ => .sax (.izx b), .izx, 6, false, .unofficialA⟩,
  ⟨fun b _ => .sty (.zp b), .zp, 3, false, .official⟩,
  ⟨fun b _ => .sta (.zp b), .zp, 3, false, .official⟩,
  ⟨fun b _ => .stx (.zp b), .zp, 3, false, .official⟩,
  ⟨fun b _ => .sax (.zp b), .zp, 3, false, .unofficialA⟩,
  ⟨fun _ _ => .dey, .imp, 2, false, .official⟩,
  ⟨fun b _ => .nopAlt 0x89 (.imm b), .imm, 2, false, .unofficialA⟩,
  ⟨fun _ _ => .txa, .imp, 2, false, .official⟩,
  ⟨fun b _ => .xaa b, .imm, 2, false, .unstable⟩,
  ⟨fun b h => .sty (.abs (word16 b h)), .abs, 4, false, .official⟩,
  ⟨fun b h => .sta (.abs (word16 b h)), .abs, 4, false, .official⟩,
  ⟨fun b h => .stx (.abs (word16 b h)), .abs, 4, false, .official⟩,
  ⟨fun b h => .sax (.abs (word16 b h)), .abs, 4, false, .unofficialA⟩]

/-- Row 9x of the opcode map (R320), columns x0 to xF. -/
def opRow9 : List OpRow := [
  ⟨fun b _ => .bcc b, .rel, 2, false, .official⟩,
  ⟨fun b _ => .sta (.izy b), .izy, 6, false, .official⟩,
  ⟨fun _ _ => .jam 0x92, .imp, 2, false, .jam⟩,
  ⟨fun b _ => .sha (.izy b), .izy, 6, false, .unstable⟩,
  ⟨fun b _ => .sty (.zpx b), .zpx, 4, false, .official⟩,
  ⟨fun b _ => .sta (.zpx b), .zpx, 4, false, .official⟩,
  ⟨fun b _ => .stx (.zpy b), .zpy, 4, false, .official⟩,
  ⟨fun b _ => .sax (.zpy b), .zpy, 4, false, .unofficialA⟩,
  ⟨fun _ _ => .tya, .imp, 2, false, .official⟩,
  ⟨fun b h => .sta (.aby (word16 b h)), .aby, 5, false, .official⟩,
  ⟨fun _ _ => .txs, .imp, 2, false, .official⟩,
  ⟨fun b h => .tas (word16 b h), .aby, 5, false, .unstable⟩,
  ⟨fun b h => .shy (word16 b h), .abx, 5, false, .unstable⟩,
  ⟨fun b h => .sta (.abx (word16 b h)), .abx, 5, false, .official⟩,
  ⟨fun b h => .shx (word16 b h), .aby, 5, false, .unstable⟩,
  ⟨fun b h => .sha (.aby (word16 b h)), .aby, 5, false, .unstable⟩]

/-- Row Ax of the opcode map (R320), columns x0 to xF. -/
def opRowA : List OpRow := [
  ⟨fun b _ => .ldy (.imm b), .imm, 2, false, .official⟩,
  ⟨fun b _ => .lda (.izx b), .izx, 6, false, .official⟩,
  ⟨fun b _ => .ldx (.imm b), .imm, 2, false, .official⟩,
  ⟨fun b _ => .lax (.izx b), .izx, 6, false, .unofficialA⟩,
  ⟨fun b _ => .ldy (.zp b), .zp, 3, false, .official⟩,
  ⟨fun b _ => .lda (.zp b), .zp, 3, false, .official⟩,
  ⟨fun b _ => .ldx (.zp b), .zp, 3, false, .official⟩,
  ⟨fun b _ => .lax (.zp b), .zp, 3, false, .unofficialA⟩,
  ⟨fun _ _ => .tay, .imp, 2, false, .official⟩,
  ⟨fun b _ => .lda (.imm b), .imm, 2, false, .official⟩,
  ⟨fun _ _ => .tax, .imp, 2, false, .official⟩,
  ⟨fun b _ => .lxa b, .imm, 2, false, .unstable⟩,
  ⟨fun b h => .ldy (.abs (word16 b h)), .abs, 4, false, .official⟩,
  ⟨fun b h => .lda (.abs (word16 b h)), .abs, 4, false, .official⟩,
  ⟨fun b h => .ldx (.abs (word16 b h)), .abs, 4, false, .official⟩,
  ⟨fun b h => .lax (.abs (word16 b h)), .abs, 4, false, .unofficialA⟩]

/-- Row Bx of the opcode map (R320), columns x0 to xF. -/
def opRowB : List OpRow := [
  ⟨fun b _ => .bcs b, .rel, 2, false, .official⟩,
  ⟨fun b _ => .lda (.izy b), .izy, 5, true, .official⟩,
  ⟨fun _ _ => .jam 0xB2, .imp, 2, false, .jam⟩,
  ⟨fun b _ => .lax (.izy b), .izy, 5, true, .unofficialA⟩,
  ⟨fun b _ => .ldy (.zpx b), .zpx, 4, false, .official⟩,
  ⟨fun b _ => .lda (.zpx b), .zpx, 4, false, .official⟩,
  ⟨fun b _ => .ldx (.zpy b), .zpy, 4, false, .official⟩,
  ⟨fun b _ => .lax (.zpy b), .zpy, 4, false, .unofficialA⟩,
  ⟨fun _ _ => .clv, .imp, 2, false, .official⟩,
  ⟨fun b h => .lda (.aby (word16 b h)), .aby, 4, true, .official⟩,
  ⟨fun _ _ => .tsx, .imp, 2, false, .official⟩,
  ⟨fun b h => .las (word16 b h), .aby, 4, true, .unofficialB⟩,
  ⟨fun b h => .ldy (.abx (word16 b h)), .abx, 4, true, .official⟩,
  ⟨fun b h => .lda (.abx (word16 b h)), .abx, 4, true, .official⟩,
  ⟨fun b h => .ldx (.aby (word16 b h)), .aby, 4, true, .official⟩,
  ⟨fun b h => .lax (.aby (word16 b h)), .aby, 4, true, .unofficialA⟩]

/-- Row Cx of the opcode map (R320), columns x0 to xF. -/
def opRowC : List OpRow := [
  ⟨fun b _ => .cpy (.imm b), .imm, 2, false, .official⟩,
  ⟨fun b _ => .cmp (.izx b), .izx, 6, false, .official⟩,
  ⟨fun b _ => .nopAlt 0xC2 (.imm b), .imm, 2, false, .unofficialA⟩,
  ⟨fun b _ => .dcp (.izx b), .izx, 8, false, .unofficialA⟩,
  ⟨fun b _ => .cpy (.zp b), .zp, 3, false, .official⟩,
  ⟨fun b _ => .cmp (.zp b), .zp, 3, false, .official⟩,
  ⟨fun b _ => .dec (.zp b), .zp, 5, false, .official⟩,
  ⟨fun b _ => .dcp (.zp b), .zp, 5, false, .unofficialA⟩,
  ⟨fun _ _ => .iny, .imp, 2, false, .official⟩,
  ⟨fun b _ => .cmp (.imm b), .imm, 2, false, .official⟩,
  ⟨fun _ _ => .dex, .imp, 2, false, .official⟩,
  ⟨fun b _ => .sbx b, .imm, 2, false, .unofficialB⟩,
  ⟨fun b h => .cpy (.abs (word16 b h)), .abs, 4, false, .official⟩,
  ⟨fun b h => .cmp (.abs (word16 b h)), .abs, 4, false, .official⟩,
  ⟨fun b h => .dec (.abs (word16 b h)), .abs, 6, false, .official⟩,
  ⟨fun b h => .dcp (.abs (word16 b h)), .abs, 6, false, .unofficialA⟩]

/-- Row Dx of the opcode map (R320), columns x0 to xF. -/
def opRowD : List OpRow := [
  ⟨fun b _ => .bne b, .rel, 2, false, .official⟩,
  ⟨fun b _ => .cmp (.izy b), .izy, 5, true, .official⟩,
  ⟨fun _ _ => .jam 0xD2, .imp, 2, false, .jam⟩,
  ⟨fun b _ => .dcp (.izy b), .izy, 8, false, .unofficialA⟩,
  ⟨fun b _ => .nopAlt 0xD4 (.zpx b), .zpx, 4, false, .unofficialA⟩,
  ⟨fun b _ => .cmp (.zpx b), .zpx, 4, false, .official⟩,
  ⟨fun b _ => .dec (.zpx b), .zpx, 6, false, .official⟩,
  ⟨fun b _ => .dcp (.zpx b), .zpx, 6, false, .unofficialA⟩,
  ⟨fun _ _ => .cld, .imp, 2, false, .official⟩,
  ⟨fun b h => .cmp (.aby (word16 b h)), .aby, 4, true, .official⟩,
  ⟨fun _ _ => .nopAlt 0xDA .imp, .imp, 2, false, .unofficialA⟩,
  ⟨fun b h => .dcp (.aby (word16 b h)), .aby, 7, false, .unofficialA⟩,
  ⟨fun b h => .nopAlt 0xDC (.abx (word16 b h)), .abx, 4, true, .unofficialA⟩,
  ⟨fun b h => .cmp (.abx (word16 b h)), .abx, 4, true, .official⟩,
  ⟨fun b h => .dec (.abx (word16 b h)), .abx, 7, false, .official⟩,
  ⟨fun b h => .dcp (.abx (word16 b h)), .abx, 7, false, .unofficialA⟩]

/-- Row Ex of the opcode map (R320), columns x0 to xF. -/
def opRowE : List OpRow := [
  ⟨fun b _ => .cpx (.imm b), .imm, 2, false, .official⟩,
  ⟨fun b _ => .sbc (.izx b), .izx, 6, false, .official⟩,
  ⟨fun b _ => .nopAlt 0xE2 (.imm b), .imm, 2, false, .unofficialA⟩,
  ⟨fun b _ => .isc (.izx b), .izx, 8, false, .unofficialA⟩,
  ⟨fun b _ => .cpx (.zp b), .zp, 3, false, .official⟩,
  ⟨fun b _ => .sbc (.zp b), .zp, 3, false, .official⟩,
  ⟨fun b _ => .inc (.zp b), .zp, 5, false, .official⟩,
  ⟨fun b _ => .isc (.zp b), .zp, 5, false, .unofficialA⟩,
  ⟨fun _ _ => .inx, .imp, 2, false, .official⟩,
  ⟨fun b _ => .sbc (.imm b), .imm, 2, false, .official⟩,
  ⟨fun _ _ => .nop, .imp, 2, false, .official⟩,
  ⟨fun b _ => .sbcAlt b, .imm, 2, false, .unofficialA⟩,
  ⟨fun b h => .cpx (.abs (word16 b h)), .abs, 4, false, .official⟩,
  ⟨fun b h => .sbc (.abs (word16 b h)), .abs, 4, false, .official⟩,
  ⟨fun b h => .inc (.abs (word16 b h)), .abs, 6, false, .official⟩,
  ⟨fun b h => .isc (.abs (word16 b h)), .abs, 6, false, .unofficialA⟩]

/-- Row Fx of the opcode map (R320), columns x0 to xF. -/
def opRowF : List OpRow := [
  ⟨fun b _ => .beq b, .rel, 2, false, .official⟩,
  ⟨fun b _ => .sbc (.izy b), .izy, 5, true, .official⟩,
  ⟨fun _ _ => .jam 0xF2, .imp, 2, false, .jam⟩,
  ⟨fun b _ => .isc (.izy b), .izy, 8, false, .unofficialA⟩,
  ⟨fun b _ => .nopAlt 0xF4 (.zpx b), .zpx, 4, false, .unofficialA⟩,
  ⟨fun b _ => .sbc (.zpx b), .zpx, 4, false, .official⟩,
  ⟨fun b _ => .inc (.zpx b), .zpx, 6, false, .official⟩,
  ⟨fun b _ => .isc (.zpx b), .zpx, 6, false, .unofficialA⟩,
  ⟨fun _ _ => .sed, .imp, 2, false, .official⟩,
  ⟨fun b h => .sbc (.aby (word16 b h)), .aby, 4, true, .official⟩,
  ⟨fun _ _ => .nopAlt 0xFA .imp, .imp, 2, false, .unofficialA⟩,
  ⟨fun b h => .isc (.aby (word16 b h)), .aby, 7, false, .unofficialA⟩,
  ⟨fun b h => .nopAlt 0xFC (.abx (word16 b h)), .abx, 4, true, .unofficialA⟩,
  ⟨fun b h => .sbc (.abx (word16 b h)), .abx, 4, true, .official⟩,
  ⟨fun b h => .inc (.abx (word16 b h)), .abx, 7, false, .official⟩,
  ⟨fun b h => .isc (.abx (word16 b h)), .abx, 7, false, .unofficialA⟩]

/-- The opcode map: 16 rows of 16 (R320). -/
def opTable : List (List OpRow) :=
  [opRow0, opRow1, opRow2, opRow3, opRow4, opRow5, opRow6, opRow7,
   opRow8, opRow9, opRowA, opRowB, opRowC, opRowD, opRowE, opRowF]

/-- The `n`-th entry of a list, and `d` beyond its end. -/
def nthOr {α : Type} (d : α) : List α → Nat → α
  | [], _ => d
  | x :: _, 0 => x
  | _ :: xs, n + 1 => nthOr d xs n

/-- OPTABLE[op] (R401, R402): row = high nibble, column = low nibble (R320). The table has an entry
for every byte (R331), so the fallback row is never read. -/
def opRow (op : Byte) : OpRow :=
  nthOr ⟨fun _ _ => .nop, .imp, 2, false, .official⟩
    (nthOr [] opTable (op.toNat / 16)) (op.toNat % 16)

/-! ## The decoder -/

/-- The instruction whose opcode byte is `op` and whose operand bytes are `b1` and `b2`, as far as it
has any (R300, R402). Every opcode byte decodes (R331). -/
def decodeInstr (op b1 b2 : Byte) : Instr := (opRow op).make b1 b2

/-- Why a byte string holds no instruction. Every opcode byte has a row (R331), so only a string that
ends too early is refused. -/
inductive DecodeError where
  | noOpcode                  -- the string is empty
  | truncated (op : Byte)     -- the opcode's operand bytes are missing
deriving DecidableEq, Repr

/-- Decode one instruction at the head of a byte string and give the bytes after it (R301). -/
def decode : List Byte → Except DecodeError (Instr × List Byte)
  | [] => .error .noOpcode
  | op :: rest =>
    match (opRow op).length, rest with
    | 1, rest => .ok (decodeInstr op 0 0, rest)
    | 2, b1 :: rest => .ok (decodeInstr op b1 0, rest)
    | 3, b1 :: b2 :: rest => .ok (decodeInstr op b1 b2, rest)
    | _, _ => .error (.truncated op)

/-- The bytes of an instruction whose bits, numbered as the opcode table numbers them, are `w`: byte
k is bits 8k+7..8k, and every bit from `nbits` up is 0. The longest instruction has three (R300). -/
def tableBytes (nbits w : Nat) : List Byte :=
  let w := w % 2 ^ nbits
  [BitVec.ofNat 8 w, BitVec.ofNat 8 (w / 256), BitVec.ofNat 8 (w / 65536)]

/-- What the decoder reads from an instruction whose bits are `w` (none where it refuses). -/
def decodeTableWord (nbits w : Nat) : Option Instr :=
  match decode (tableBytes nbits w) with
  | .ok (i, _) => some i
  | .error _ => none

/-! ## The encoder -/

/-- The opcode byte of an instruction, none where it is not well-formed. Transcribed from the opcode
lists of the instructions' rules (R510-R860), not from the table above. -/
def Instr.opcode? : Instr → Option Byte
  | .lda f => match f.mode with
      | .izx => some 0xA1 | .zp => some 0xA5 | .imm => some 0xA9 | .abs => some 0xAD
      | .izy => some 0xB1 | .zpx => some 0xB5 | .aby => some 0xB9 | .abx => some 0xBD
      | _ => none
  | .ldx f => match f.mode with
      | .imm => some 0xA2 | .zp => some 0xA6 | .abs => some 0xAE | .zpy => some 0xB6
      | .aby => some 0xBE | _ => none
  | .ldy f => match f.mode with
      | .imm => some 0xA0 | .zp => some 0xA4 | .abs => some 0xAC | .zpx => some 0xB4
      | .abx => some 0xBC | _ => none
  | .sta f => match f.mode with
      | .izx => some 0x81 | .zp => some 0x85 | .abs => some 0x8D | .izy => some 0x91
      | .zpx => some 0x95 | .aby => some 0x99 | .abx => some 0x9D | _ => none
  | .stx f => match f.mode with
      | .zp => some 0x86 | .abs => some 0x8E | .zpy => some 0x96 | _ => none
  | .sty f => match f.mode with
      | .zp => some 0x84 | .abs => some 0x8C | .zpx => some 0x94 | _ => none
  | .tax => some 0xAA
  | .tay => some 0xA8
  | .txa => some 0x8A
  | .tya => some 0x98
  | .tsx => some 0xBA
  | .txs => some 0x9A
  | .pha => some 0x48
  | .php => some 0x08
  | .pla => some 0x68
  | .plp => some 0x28
  | .adc f => match f.mode with
      | .izx => some 0x61 | .zp => some 0x65 | .imm => some 0x69 | .abs => some 0x6D
      | .izy => some 0x71 | .zpx => some 0x75 | .aby => some 0x79 | .abx => some 0x7D
      | _ => none
  | .sbc f => match f.mode with
      | .izx => some 0xE1 | .zp => some 0xE5 | .imm => some 0xE9 | .abs => some 0xED
      | .izy => some 0xF1 | .zpx => some 0xF5 | .aby => some 0xF9 | .abx => some 0xFD
      | _ => none
  | .and f => match f.mode with
      | .izx => some 0x21 | .zp => some 0x25 | .imm => some 0x29 | .abs => some 0x2D
      | .izy => some 0x31 | .zpx => some 0x35 | .aby => some 0x39 | .abx => some 0x3D
      | _ => none
  | .ora f => match f.mode with
      | .izx => some 0x01 | .zp => some 0x05 | .imm => some 0x09 | .abs => some 0x0D
      | .izy => some 0x11 | .zpx => some 0x15 | .aby => some 0x19 | .abx => some 0x1D
      | _ => none
  | .eor f => match f.mode with
      | .izx => some 0x41 | .zp => some 0x45 | .imm => some 0x49 | .abs => some 0x4D
      | .izy => some 0x51 | .zpx => some 0x55 | .aby => some 0x59 | .abx => some 0x5D
      | _ => none
  | .bit f => match f.mode with
      | .zp => some 0x24 | .abs => some 0x2C | _ => none
  | .cmp f => match f.mode with
      | .izx => some 0xC1 | .zp => some 0xC5 | .imm => some 0xC9 | .abs => some 0xCD
      | .izy => some 0xD1 | .zpx => some 0xD5 | .aby => some 0xD9 | .abx => some 0xDD
      | _ => none
  | .cpx f => match f.mode with
      | .imm => some 0xE0 | .zp => some 0xE4 | .abs => some 0xEC | _ => none
  | .cpy f => match f.mode with
      | .imm => some 0xC0 | .zp => some 0xC4 | .abs => some 0xCC | _ => none
  | .inc f => match f.mode with
      | .zp => some 0xE6 | .abs => some 0xEE | .zpx => some 0xF6 | .abx => some 0xFE
      | _ => none
  | .dec f => match f.mode with
      | .zp => some 0xC6 | .abs => some 0xCE | .zpx => some 0xD6 | .abx => some 0xDE
      | _ => none
  | .inx => some 0xE8
  | .iny => some 0xC8
  | .dex => some 0xCA
  | .dey => some 0x88
  | .asl f => match f.mode with
      | .zp => some 0x06 | .acc => some 0x0A | .abs => some 0x0E | .zpx => some 0x16
      | .abx => some 0x1E | _ => none
  | .lsr f => match f.mode with
      | .zp => some 0x46 | .acc => some 0x4A | .abs => some 0x4E | .zpx => some 0x56
      | .abx => some 0x5E | _ => none
  | .rol f => match f.mode with
      | .zp => some 0x26 | .acc => some 0x2A | .abs => some 0x2E | .zpx => some 0x36
      | .abx => some 0x3E | _ => none
  | .ror f => match f.mode with
      | .zp => some 0x66 | .acc => some 0x6A | .abs => some 0x6E | .zpx => some 0x76
      | .abx => some 0x7E | _ => none
  | .jmp f => match f.mode with
      | .abs => some 0x4C | .ind => some 0x6C | _ => none
  | .jsr _ => some 0x20
  | .rts => some 0x60
  | .rti => some 0x40
  | .brk => some 0x00
  | .bpl _ => some 0x10
  | .bmi _ => some 0x30
  | .bvc _ => some 0x50
  | .bvs _ => some 0x70
  | .bcc _ => some 0x90
  | .bcs _ => some 0xB0
  | .bne _ => some 0xD0
  | .beq _ => some 0xF0
  | .clc => some 0x18
  | .sec => some 0x38
  | .cli => some 0x58
  | .sei => some 0x78
  | .cld => some 0xD8
  | .sed => some 0xF8
  | .clv => some 0xB8
  | .nop => some 0xEA
  | .lax f => match f.mode with
      | .izx => some 0xA3 | .zp => some 0xA7 | .abs => some 0xAF | .izy => some 0xB3
      | .zpy => some 0xB7 | .aby => some 0xBF | _ => none
  | .sax f => match f.mode with
      | .izx => some 0x83 | .zp => some 0x87 | .abs => some 0x8F | .zpy => some 0x97
      | _ => none
  | .dcp f => match f.mode with
      | .izx => some 0xC3 | .zp => some 0xC7 | .abs => some 0xCF | .izy => some 0xD3
      | .zpx => some 0xD7 | .aby => some 0xDB | .abx => some 0xDF | _ => none
  | .isc f => match f.mode with
      | .izx => some 0xE3 | .zp => some 0xE7 | .abs => some 0xEF | .izy => some 0xF3
      | .zpx => some 0xF7 | .aby => some 0xFB | .abx => some 0xFF | _ => none
  | .slo f => match f.mode with
      | .izx => some 0x03 | .zp => some 0x07 | .abs => some 0x0F | .izy => some 0x13
      | .zpx => some 0x17 | .aby => some 0x1B | .abx => some 0x1F | _ => none
  | .rla f => match f.mode with
      | .izx => some 0x23 | .zp => some 0x27 | .abs => some 0x2F | .izy => some 0x33
      | .zpx => some 0x37 | .aby => some 0x3B | .abx => some 0x3F | _ => none
  | .sre f => match f.mode with
      | .izx => some 0x43 | .zp => some 0x47 | .abs => some 0x4F | .izy => some 0x53
      | .zpx => some 0x57 | .aby => some 0x5B | .abx => some 0x5F | _ => none
  | .rra f => match f.mode with
      | .izx => some 0x63 | .zp => some 0x67 | .abs => some 0x6F | .izy => some 0x73
      | .zpx => some 0x77 | .aby => some 0x7B | .abx => some 0x7F | _ => none
  | .nopAlt op f => if (nopOpcodes f.mode).contains op then some op else none
  | .sbcAlt _ => some 0xEB
  | .anc op _ => if [(0x0B : Byte), 0x2B].contains op then some op else none
  | .alr _ => some 0x4B
  | .arr _ => some 0x6B
  | .sbx _ => some 0xCB
  | .las _ => some 0xBB
  | .xaa _ => some 0x8B
  | .lxa _ => some 0xAB
  | .sha f => match f.mode with
      | .izy => some 0x93 | .aby => some 0x9F | _ => none
  | .shx _ => some 0x9E
  | .shy _ => some 0x9C
  | .tas _ => some 0x9B
  | .jam op => if jamOpcodes.contains op then some op else none

/-- The addressing mode of an instruction, with its operand bytes (R310). -/
def Instr.form : Instr → Form
  | .lda f => f
  | .ldx f => f
  | .ldy f => f
  | .sta f => f
  | .stx f => f
  | .sty f => f
  | .tax => .imp
  | .tay => .imp
  | .txa => .imp
  | .tya => .imp
  | .tsx => .imp
  | .txs => .imp
  | .pha => .imp
  | .php => .imp
  | .pla => .imp
  | .plp => .imp
  | .adc f => f
  | .sbc f => f
  | .and f => f
  | .ora f => f
  | .eor f => f
  | .bit f => f
  | .cmp f => f
  | .cpx f => f
  | .cpy f => f
  | .inc f => f
  | .dec f => f
  | .inx => .imp
  | .iny => .imp
  | .dex => .imp
  | .dey => .imp
  | .asl f => f
  | .lsr f => f
  | .rol f => f
  | .ror f => f
  | .jmp f => f
  | .jsr a => .abs a
  | .rts => .imp
  | .rti => .imp
  | .brk => .imp
  | .bpl d => .rel d
  | .bmi d => .rel d
  | .bvc d => .rel d
  | .bvs d => .rel d
  | .bcc d => .rel d
  | .bcs d => .rel d
  | .bne d => .rel d
  | .beq d => .rel d
  | .clc => .imp
  | .sec => .imp
  | .cli => .imp
  | .sei => .imp
  | .cld => .imp
  | .sed => .imp
  | .clv => .imp
  | .nop => .imp
  | .lax f => f
  | .sax f => f
  | .dcp f => f
  | .isc f => f
  | .slo f => f
  | .rla f => f
  | .sre f => f
  | .rra f => f
  | .nopAlt _ f => f
  | .sbcAlt b => .imm b
  | .anc _ b => .imm b
  | .alr b => .imm b
  | .arr b => .imm b
  | .sbx b => .imm b
  | .las a => .aby a
  | .xaa b => .imm b
  | .lxa b => .imm b
  | .sha f => f
  | .shx a => .aby a
  | .shy a => .abx a
  | .tas a => .aby a
  | .jam _ => .imp

/-- The operand bytes of a form, in address order (R300: the low byte of an address first). -/
def Form.bytes : Form → List Byte
  | .imp | .acc => []
  | .imm b | .zp b | .zpx b | .zpy b | .izx b | .izy b | .rel b => [b]
  | .abs a | .abx a | .aby a | .ind a => [lowByte a, highByte a]

/-- The bytes of a well-formed instruction (R300); an ill-formed term has none. -/
def encode (i : Instr) : List Byte :=
  match i.opcode? with
  | some op => op :: i.form.bytes
  | none => []

/-- The opcode byte of an instruction; 0 for an ill-formed term. -/
def Instr.opcode (i : Instr) : Byte := i.opcode?.getD 0

/-- The instruction's row of the opcode table. -/
def Instr.row (i : Instr) : OpRow := opRow i.opcode

/-- The instruction's length in bytes (R301). -/
def Instr.length (i : Instr) : Nat := i.form.mode.length

end Sys2Proof
end

