-- ==== Sys2Proof/Machine/State.lean ====
section
/-! DEFINITION. Machine/State.lean: the state of the machine, exactly the pieces the spec lists (R100 to
R135, R1500), as plain data; the reasons a step can stop; and the power cycle (R140 to R145, R1550),
of which `State.reset` is one case. -/

namespace Sys2Proof.Machine

/-! ## Why a step stops -/

/-- The fault kinds of R15: fatal outcomes of the run, not CPU exceptions (R901). -/
inductive FaultKind where
  | romWrite
  | internalDecode
deriving DecidableEq, Repr

/-- The reasons a run can be marked refused for (R15, R124); a refused image gives no state to mark
(R16). -/
inductive RefusalReason where
  | unstableOpcode (op : Byte)
deriving DecidableEq, Repr

/-! ## Memories -/

/-- A store of values by index: strictly rising indices, no entry equal to what an unlisted index
reads as (`Sparse.wf`, Machine/Mem.lean). -/
abbrev Sparse (α : Type) := List (Nat × α)

/-- A memory of bytes: a list of `Host.Cell`. An unlisted index reads as $00 (log entry 2). -/
abbrev Mem := Sparse Byte

/-! ## The CPU (R100 to R123) -/

/-- The resolved address kind of the in-flight record (R120). -/
inductive Operand where
  | implicit
  | accumulator
  | immediate (b : Byte)
  | address (ea : Word)
  | relative (target : Word)
deriving DecidableEq, Repr

/-- The sequences of R120: reset and the two interrupts. -/
inductive SeqKind where
  | reset | nmi | irq
deriving DecidableEq, Repr

/-- What an interrupt poll can record, beside nothing (R121). -/
inductive Interrupt where
  | nmi | irq
deriving DecidableEq, Repr

/-- What is in flight: an instruction (the spec's `Op` with its opcode, whose `len` and `mode` follow
from it) or a sequence (R120). -/
inductive InflightKind where
  | op (i : Instr)
  | seq (q : SeqKind)
deriving DecidableEq, Repr

/-- The in-flight record (R120). -/
structure Inflight where
  kind     : InflightKind
  pc0      : Word
  operand  : Operand
  taken    : Bool
  hijacked : Bool
  total    : Nat
  elapsed  : Nat
deriving DecidableEq, Repr

/-- The CPU (R100, R120 to R123). -/
structure Cpu where
  a : Byte
  x : Byte
  y : Byte
  s : Byte
  p : Byte                        -- NV-BDIZC (R110)
  pc : Word
  inflight   : Option Inflight
  intReq     : Option Interrupt
  nmiPending : Bool
  nmiPrev    : Bool
  halted     : Bool
  dmcStall   : Nat
deriving DecidableEq, Repr

/-! ## The PPU (R130) -/

/-- One picture element: a colour index and the emphasis bits (R1080). -/
structure Pixel where
  colour   : BitVec 6
  emphasis : BitVec 3
deriving DecidableEq, Repr

/-- The output picture: rows of pixels, unlisted rows empty, unlisted pixels `Pixel.blank`. -/
abbrev Picture := Sparse (Sparse Pixel)

/-- What `fb` holds after the power cycle: colour index $0F, emphasis 0 (R141). -/
def Pixel.blank : Pixel := ⟨0x0F, 0⟩

/-- One evaluated sprite (R130, R1060). -/
structure EvalEntry where
  index : Nat
  tile  : Byte
  attr  : Byte
  x     : Byte
  row   : Nat
deriving DecidableEq, Repr

/-- One render slot (R130, R1063). -/
structure RenderSlot where
  valid : Bool
  index : Nat
  attr  : Byte
  x     : Byte
  patLo : Byte
  patHi : Byte
deriving DecidableEq, Repr

/-- A slot with no sprite. -/
def RenderSlot.invalid : RenderSlot := ⟨false, 0, 0, 0, 0, 0⟩

/-- The PPU (R130). -/
structure Ppu where
  ctrl : Byte
  mask : Byte
  vblank   : Bool
  s0hit    : Bool
  overflow : Bool
  oamaddr : Byte
  v : BitVec 15
  t : BitVec 15
  x : BitVec 3
  w : Bool
  rdbuf : Byte
  oam : Mem                       -- 256 bytes
  pal : Sparse (BitVec 6)         -- 32 entries
  line  : Nat
  dot   : Nat
  frame : Nat
  bgLo : BitVec 16
  bgHi : BitVec 16
  atLo : BitVec 16
  atHi : BitVec 16
  ntLatch   : Byte
  atLatch   : BitVec 2
  ptLoLatch : Byte
  ptHiLatch : Byte
  eval   : List EvalEntry         -- at most 8
  render : List RenderSlot        -- 8 slots
  suppressVbl : Bool
  lastA12     : Bool
  fb : Picture
deriving DecidableEq, Repr

/-! ## The APU (R131) -/

/-- An IEEE-754 binary32 value, by its bits (R1280). -/
abbrev F32 := BitVec 32

/-- An envelope (R131, R1252). -/
structure Envelope where
  start    : Bool
  divider  : BitVec 4
  decay    : BitVec 4
  constant : Bool
  volume   : BitVec 4
deriving DecidableEq, Repr

/-- A sweep unit (R131, R1253). -/
structure Sweep where
  enabled       : Bool
  dividerPeriod : BitVec 3
  negate        : Bool
  shift         : BitVec 3
  divider       : BitVec 3
  reload        : Bool
deriving DecidableEq, Repr

/-- A pulse channel (R131). -/
structure Pulse where
  enabled : Bool
  duty    : BitVec 2
  seq     : BitVec 3
  period  : BitVec 11
  timer   : BitVec 11
  length  : Byte
  halt    : Bool
  env     : Envelope
  sweep   : Sweep
deriving DecidableEq, Repr

/-- The triangle channel (R131). -/
structure Triangle where
  enabled          : Bool
  control          : Bool
  linearReload     : BitVec 7
  linear           : BitVec 7
  linearReloadFlag : Bool
  period           : BitVec 11
  timer            : BitVec 11
  seq              : BitVec 5
  length           : Byte
deriving DecidableEq, Repr

/-- The noise channel (R131). -/
structure Noise where
  enabled     : Bool
  halt        : Bool
  env         : Envelope
  mode        : Bool
  periodIndex : BitVec 4
  timer       : BitVec 12
  lfsr        : BitVec 15
  length      : Byte
deriving DecidableEq, Repr

/-- The delta-modulation channel (R131). -/
structure Dmc where
  irqEnable      : Bool
  loop           : Bool
  rateIndex      : BitVec 4
  timer          : BitVec 9
  output         : BitVec 7
  sampleAddr     : Word
  sampleLen      : BitVec 12
  curAddr        : Word
  bytesRemaining : BitVec 12
  buffer         : Option Byte
  shift          : Byte
  bitsRemaining  : Nat
  silence        : Bool
  irqFlag        : Bool
deriving DecidableEq, Repr

/-- The frame sequencer (R131, R1240, R1241). -/
structure FrameSeq where
  mode       : Bool
  inhibit    : Bool
  fc         : Nat
  frameIrq   : Bool
  resetDelay : Option Nat
deriving DecidableEq, Repr

/-- The mixer's accumulator and the frame's audio buffer (R131, R1281). -/
structure Mixer where
  sampleAcc   : F32
  sampleCount : Nat
  audio       : List F32          -- oldest first
deriving DecidableEq, Repr

/-- The APU (R131). -/
structure Apu where
  p1 : Pulse
  p2 : Pulse
  tri : Triangle
  noise : Noise
  dmc : Dmc
  seq : FrameSeq
  mix : Mixer
deriving DecidableEq, Repr

/-! ## The bus and the controllers (R132) -/

/-- The bus and the controller ports (R132). -/
structure Bus where
  ram  : Mem                      -- 2048 bytes
  vram : Mem                      -- 2048 bytes
  ppuLatch : Byte
  apuLatch : Byte
  strobe : Bool
  shift1 : Byte
  shift2 : Byte
  count1 : Nat
  count2 : Nat
deriving DecidableEq, Repr

/-! ## The cartridge and its mapper (R133) -/

/-- The nametable mirroring modes (R231). -/
inductive Mirroring where
  | horizontal | vertical | singleLower | singleUpper
deriving DecidableEq, Repr

/-- MMC1's registers (R1420, R1421). -/
structure Mmc1 where
  shift   : BitVec 5
  control : BitVec 5
  chr0    : BitVec 5
  chr1    : BitVec 5
  prg     : BitVec 5
deriving DecidableEq, Repr

/-- MMC3's registers (R1450, R1455). -/
structure Mmc3 where
  target  : BitVec 3
  prgMode : Bool
  chrInv  : Bool
  r0 : Byte
  r1 : Byte
  r2 : Byte
  r3 : Byte
  r4 : Byte
  r5 : Byte
  r6 : Byte
  r7 : Byte
  mirror     : Mirroring
  ramProtect : Byte
  irqLatch   : Byte
  irqCounter : Byte
  irqReload  : Bool
  irqEnabled : Bool
  irqPending : Bool
deriving DecidableEq, Repr

/-- The mapper: a closed tagged-variant type with each variant's registers (R1400). -/
inductive Mapper where
  | nrom
  | mmc1 (m : Mmc1)
  | uxrom (bank : Byte)
  | cnrom (chrBank : Byte)
  | mmc3 (m : Mmc3)
  | axrom (bank : BitVec 3) (single : Bool)
deriving DecidableEq, Repr

/-- The cartridge: the loader's outputs, the cartridge RAMs and the mapper (R133, R1401, R1403,
R1406). With `chrLen = 0` the cartridge has CHR-RAM. -/
structure Cart where
  prg    : Mem
  prgLen : Nat
  chr    : Mem
  chrLen : Nat
  mirrorFlag : Mirroring
  prgRam : Mem                    -- 8 KiB
  chrRam : Mem                    -- 8 KiB
  mapper : Mapper
deriving DecidableEq, Repr

/-! ## The host boundary (R1520) -/

/-- What the frame sink receives at a frame boundary (R1003, R1080, R1281). -/
structure FrameOut where
  picture : Picture
  audio   : List F32
deriving DecidableEq, Repr

/-- Inputs the host sets (the machine never writes them) and the last output it was handed (the
machine never reads it). -/
structure HostIO where
  buttons1 : Byte                 -- Buttons(1) (R1510)
  buttons2 : Byte                 -- Buttons(2) (R1510)
  samplePeriod : Nat              -- SAMPLE_PERIOD (R8, R1281)
  sink : Option FrameOut
deriving DecidableEq, Repr

/-! ## The machine -/

/-- The machine state: the union of R100 to R135 (R1500), the host boundary, and the model's own draw
counter. -/
structure State where
  cpu  : Cpu
  ppu  : Ppu
  apu  : Apu
  bus  : Bus
  cart : Cart
  t      : Nat                    -- T (R134, R1502)
  frames : Nat                    -- completed frames (R134)
  host : HostIO
  draws : Nat                     -- the MODEL's field: UNMAPPED_READ draws so far (R213, log entry 5)
  fault   : Option FaultKind      -- run-level mark (R124)
  refused : Option RefusalReason  -- run-level mark (R124)
deriving DecidableEq, Repr

/-! ## How a step stops -/

/-- The faults of R15, each with its fault state: the state at the point of the fault (R1501), marked
(R124). -/
inductive Fault where
  /-- A write reached read-only cartridge storage (R214): raised by the mapper's CPU-side write on NROM
  (R1410) and by its PPU-side write with CHR-ROM (R1406). Safe: the spec's own outcome. -/
  | romWrite (state : State)
  /-- An address-decoding defect (R15). No in-scope address reaches it; raised by `load`, `store` and
  `rmw` when the operand is of a kind R405 has no case for, which no well-formed instruction resolves
  to (log entry 12). Safe: the model stops. -/
  | internalDecode (state : State)
deriving DecidableEq, Repr

/-- The refusals. -/
inductive Refusal where
  /-- The instruction has no meaning yet: raised by `exec`'s arm alone. Safe: the model stops. -/
  | notModelled (mnemonic : String)
  /-- `refuse(UnstableOpcode(op))` (R401, R840 to R845), with the marked state at that point: raised by
  `fetch`, and by the meanings of the set U opcodes. Safe: the spec's own outcome, the model stops. -/
  | unstableOpcode (op : Byte) (state : State)
  /-- The loader's image is outside R1401 (mapper number, sizes or mirroring flag): raised by `loadCart`
  alone, at load time, and no initial state exists (R16). Safe: the spec's own outcome. -/
  | unacceptableImage (mapperNumber : Nat)
deriving DecidableEq, Repr

/-! ## The power cycle (R140 to R145, R1550) -/

/-- POWERUP_FILL (R8, D3): the power-up contents of every RAM, an argument of the power cycle. -/
structure Fill where
  ram    : Mem
  vram   : Mem
  oam    : Mem
  pal    : Sparse (BitVec 6)
  prgRam : Mem
  chrRam : Mem
deriving DecidableEq, Repr

/-- The fill `State.reset` takes: nothing listed (log entry 2). -/
def Fill.blank : Fill := ⟨[], [], [], [], [], []⟩

/-- The RESET sequence in flight, as `start_sequence(RESET)` makes it (R910, R140). -/
def Inflight.reset (pc : Word) : Inflight :=
  { kind := .seq .reset, pc0 := pc, operand := .implicit, taken := false, hijacked := false,
    total := 7, elapsed := 0 }

/-- The CPU after the power cycle (R140). PC is loaded by the RESET sequence's final cycle; until then
it is $0000 (log entry 4). -/
def Cpu.powerUp : Cpu :=
  { a := 0x00, x := 0x00, y := 0x00, s := 0xFD, p := 0x24, pc := 0x0000
    inflight := some (Inflight.reset 0x0000), intReq := none
    nmiPending := false, nmiPrev := false, halted := false, dmcStall := 0 }

/-- The PPU after the power cycle (R141). -/
def Ppu.powerUp (fill : Fill) : Ppu :=
  { ctrl := 0, mask := 0, vblank := false, s0hit := false, overflow := false, oamaddr := 0
    v := 0, t := 0, x := 0, w := false, rdbuf := 0, oam := fill.oam, pal := fill.pal
    line := 0, dot := 0, frame := 0, bgLo := 0, bgHi := 0, atLo := 0, atHi := 0
    ntLatch := 0, atLatch := 0, ptLoLatch := 0, ptHiLatch := 0
    eval := [], render := List.replicate 8 RenderSlot.invalid
    suppressVbl := false, lastA12 := false, fb := [] }

/-- An envelope with every field 0 (R142). -/
def Envelope.powerUp : Envelope := ⟨false, 0, 0, false, 0⟩

/-- A pulse channel with every field 0 (R142). -/
def Pulse.powerUp : Pulse :=
  { enabled := false, duty := 0, seq := 0, period := 0, timer := 0, length := 0, halt := false
    env := Envelope.powerUp, sweep := ⟨false, 0, false, 0, 0, false⟩ }

/-- The APU after the power cycle (R142; log entry 13 for the fields it does not name). -/
def Apu.powerUp : Apu :=
  { p1 := Pulse.powerUp, p2 := Pulse.powerUp
    tri := { enabled := false, control := false, linearReload := 0, linear := 0,
             linearReloadFlag := false, period := 0, timer := 0, seq := 0, length := 0 }
    noise := { enabled := false, halt := false, env := Envelope.powerUp, mode := false,
               periodIndex := 0, timer := 0, lfsr := 1, length := 0 }
    dmc := { irqEnable := false, loop := false, rateIndex := 0, timer := 0, output := 0,
             sampleAddr := 0xC000, sampleLen := 1, curAddr := 0xC000, bytesRemaining := 0,
             buffer := none, shift := 0, bitsRemaining := 8, silence := true, irqFlag := false }
    seq := { mode := false, inhibit := false, fc := 0, frameIrq := false, resetDelay := none }
    mix := { sampleAcc := 0, sampleCount := 0, audio := [] } }

/-- The bus and the controllers after the power cycle (R143). -/
def Bus.powerUp (fill : Fill) : Bus :=
  { ram := fill.ram, vram := fill.vram, ppuLatch := 0, apuLatch := 0, strobe := false
    shift1 := 0, shift2 := 0, count1 := 0, count2 := 0 }

/-- The variant's power-up rule (R1412, R1422, R1432, R1442, R1452, R1462). -/
def Mapper.powerUp (flag : Mirroring) : Mapper → Mapper
  | .nrom => .nrom
  | .mmc1 _ => .mmc1 { shift := 0x10, control := 0x0C, chr0 := 0, chr1 := 0, prg := 0 }
  | .uxrom _ => .uxrom 0
  | .cnrom _ => .cnrom 0
  | .mmc3 _ => .mmc3
      { target := 0, prgMode := false, chrInv := false
        r0 := 0, r1 := 2, r2 := 4, r3 := 5, r4 := 6, r5 := 7, r6 := 0, r7 := 1
        mirror := flag, ramProtect := 0, irqLatch := 0, irqCounter := 0
        irqReload := false, irqEnabled := false, irqPending := false }
  | .axrom _ _ => .axrom 0 false

/-- The cartridge after the power cycle: the mapper rebuilt, the RAMs refilled, the images unchanged
(R144, R1470). -/
def Cart.powerUp (fill : Fill) (c : Cart) : Cart :=
  { c with prgRam := fill.prgRam, chrRam := fill.chrRam, mapper := c.mapper.powerUp c.mirrorFlag }

/-- `power_cycle()` (R1550) of a machine with the cartridge `c` and the host boundary `h`: every state
element at the value R140 to R145 give it. -/
def State.powerCycle (fill : Fill) (c : Cart) (h : HostIO) : State :=
  { cpu := Cpu.powerUp, ppu := Ppu.powerUp fill, apu := Apu.powerUp, bus := Bus.powerUp fill
    cart := c.powerUp fill, t := 0, frames := 0, host := h, draws := 0
    fault := none, refused := none }

/-- The cartridge in `State.reset`: a blank 32 KiB NROM with CHR-RAM (log entry 3). -/
def Cart.blank : Cart :=
  { prg := [], prgLen := 32768, chr := [], chrLen := 0, mirrorFlag := .horizontal
    prgRam := [], chrRam := [], mapper := .nrom }

/-- The host boundary in `State.reset`: no button held, 41 cycles per sample, nothing handed over yet
(log entries 7, 8 and 16). -/
def HostIO.initial : HostIO := { buttons1 := 0, buttons2 := 0, samplePeriod := 41, sink := none }

/-- The machine right after reset: the power cycle of a machine with a blank cartridge and a blank
fill (R1550, log entries 2 and 3). -/
def State.reset : State := State.powerCycle Fill.blank Cart.blank HostIO.initial

end Sys2Proof.Machine
end

