-- ==== Sys2Proof/Machine/Flags.lean ====
section
/-! DEFINITION. Machine/Flags.lean: the bits of P (R110, R111), the flag rules every instruction uses
(R11: `setNZ`; R600: `AddC`, `SubC`, `Compare`) and the shifts and rotates with their carry (R640 to
R643), all as functions of the CPU alone. -/

namespace Sys2Proof.Machine

/-- A byte with bit `n` equal to `c` and the others 0. -/
def flagByte (c : Bool) (n : Nat) : Byte := if c then 1 <<< n else 0

/-- `p` with bit `n` made `c`. -/
def setBit (n : Nat) (c : Bool) (p : Byte) : Byte := (p &&& ~~~((1 : Byte) <<< n)) ||| flagByte c n

/-! ## The flags of P (R110) -/

/-- Bit 7: negative. -/
def Cpu.flagN (c : Cpu) : Bool := c.p.getLsbD 7
/-- Bit 6: signed overflow. -/
def Cpu.flagV (c : Cpu) : Bool := c.p.getLsbD 6
/-- Bit 3: decimal mode, which nothing reads (R112). -/
def Cpu.flagD (c : Cpu) : Bool := c.p.getLsbD 3
/-- Bit 2: interrupt disable (R113). -/
def Cpu.flagI (c : Cpu) : Bool := c.p.getLsbD 2
/-- Bit 1: zero. -/
def Cpu.flagZ (c : Cpu) : Bool := c.p.getLsbD 1
/-- Bit 0: carry. -/
def Cpu.flagC (c : Cpu) : Bool := c.p.getLsbD 0

/-- `N <- b`. -/
def setN (b : Bool) (c : Cpu) : Cpu := { c with p := setBit 7 b c.p }
/-- `V <- b`. -/
def setV (b : Bool) (c : Cpu) : Cpu := { c with p := setBit 6 b c.p }
/-- `D <- b`. -/
def setD (b : Bool) (c : Cpu) : Cpu := { c with p := setBit 3 b c.p }
/-- `I <- b`. -/
def setI (b : Bool) (c : Cpu) : Cpu := { c with p := setBit 2 b c.p }
/-- `Z <- b`. -/
def setZ (b : Bool) (c : Cpu) : Cpu := { c with p := setBit 1 b c.p }
/-- `C <- b`. -/
def setC (b : Bool) (c : Cpu) : Cpu := { c with p := setBit 0 b c.p }

/-- `setNZ(v)` (R11). -/
def setNZ (v : Byte) (c : Cpu) : Cpu := setZ (v == 0) (setN (v.getLsbD 7) c)

/-! ## The pushed image of P (R111) -/

/-- What PHP and BRK push: bits 4 and 5 are 1. -/
def statusPushed (p : Byte) : Byte := p ||| 0x30

/-- What the IRQ and NMI sequences push: bit 4 is 0, bit 5 is 1. -/
def statusPushedBySequence (p : Byte) : Byte := (p ||| 0x20) &&& 0xEF

/-- P after PLP or RTI pulled `m`: bits 4 and 5 of `m` are ignored. -/
def statusPulled (m : Byte) : Byte := (m &&& 0xCF) ||| 0x20

/-! ## Arithmetic (R600) -/

/-- The exact sum A + m + C. -/
def addExact (m : Byte) (c : Cpu) : Nat := c.a.toNat + m.toNat + c.flagC.toNat

/-- `AddC(m)`. D is ignored (R112). -/
def addC (m : Byte) (c : Cpu) : Cpu :=
  let s := addExact m c
  let r := BitVec.ofNat 8 s
  let v := ((c.a ^^^ r) &&& (m ^^^ r)).getLsbD 7
  setNZ r { setC (decide (0xFF < s)) (setV v c) with a := r }

/-- `SubC(m)`. -/
def subC (m : Byte) (c : Cpu) : Cpu := addC (m ^^^ 0xFF) c

/-- `Compare(r, m)`. -/
def compare (r m : Byte) (c : Cpu) : Cpu := setNZ (r - m) (setC (decide (m ≤ r)) c)

/-! ## Shifts and rotates (R640 to R643): the result, and the CPU with the new carry -/

/-- `{ C <- m[7]; (m << 1) & $FF }` (R640). -/
def shiftLeft (m : Byte) (c : Cpu) : Byte × Cpu := (m <<< 1, setC (m.getLsbD 7) c)

/-- `{ C <- m[0]; m >> 1 }` (R641). -/
def shiftRight (m : Byte) (c : Cpu) : Byte × Cpu := (m >>> 1, setC (m.getLsbD 0) c)

/-- `{ c0 <- C; C <- m[7]; ((m << 1) | c0) & $FF }` (R642). -/
def rotateLeft (m : Byte) (c : Cpu) : Byte × Cpu :=
  ((m <<< 1) ||| flagByte c.flagC 0, setC (m.getLsbD 7) c)

/-- `{ c0 <- C; C <- m[0]; (m >> 1) | (c0 << 7) }` (R643). -/
def rotateRight (m : Byte) (c : Cpu) : Byte × Cpu :=
  ((m >>> 1) ||| flagByte c.flagC 7, setC (m.getLsbD 0) c)

/-- `(m + 1) & $FF`, no flag (R630). -/
def plusOne (m : Byte) (c : Cpu) : Byte × Cpu := (m + 1, c)

/-- `(m - 1) & $FF`, no flag (R631). -/
def minusOne (m : Byte) (c : Cpu) : Byte × Cpu := (m - 1, c)

end Sys2Proof.Machine
end

