-- ==== Sys2Proof/Machine/Float32.lean ====
section
/-! DEFINITION. Machine/Float32.lean: the IEEE-754 binary32 arithmetic the mixer uses (R1280, R1281):
addition and division, each rounded once to nearest, ties to even. Log entry 9.

A finite value is a whole number of units of 2^-149, the least subnormal, so the exact result of an
operation is a quotient of natural numbers and `f32Round` is the only rounding. -/

namespace Sys2Proof.Machine

/-- A binary32 value taken apart: not a number, an infinity, or a sign and a magnitude in units of
2^-149. -/
inductive F32Class where
  | nan
  | inf (neg : Bool)
  | fin (neg : Bool) (units : Nat)
deriving DecidableEq, Repr

/-- The class and value of a bit pattern. -/
def f32Class (b : F32) : F32Class :=
  let neg := b.getLsbD 31
  let e := b.toNat / 2 ^ 23 % 2 ^ 8
  let f := b.toNat % 2 ^ 23
  if e = 255 then (if f = 0 then .inf neg else .nan)
  else if e = 0 then .fin neg f
  else .fin neg ((2 ^ 23 + f) * 2 ^ (e - 1))

/-- The magnitude bits of `num / den` units, rounded to nearest, ties to even; beyond the greatest
finite value they are infinity's. `den` is not 0. -/
def f32Round (num den : Nat) : Nat :=
  let sh := Nat.log2 (num / den) - 23
  let den' := den * 2 ^ sh
  let q := num / den'
  let r := num % den'
  let up := decide (2 * r > den') || (decide (2 * r = den') && decide (q % 2 = 1))
  min (sh * 2 ^ 23 + q + (if up then 1 else 0)) (255 * 2 ^ 23)

/-- A bit pattern from a sign and magnitude bits. -/
def f32Pack (neg : Bool) (mag : Nat) : F32 := BitVec.ofNat 32 ((if neg then 2 ^ 31 else 0) + mag)

/-- The quiet not-a-number the model gives (log entry 9: no rule makes one arise). -/
def f32NaN : F32 := 0x7FC00000

/-- The binary32 value nearest to `num / den`. -/
def f32OfRat (num den : Nat) : F32 := f32Pack false (f32Round (num * 2 ^ 149) den)

/-- The binary32 value of a natural number. -/
def f32OfNat (n : Nat) : F32 := f32OfRat n 1

/-- The sum, rounded once. -/
def f32Add (a b : F32) : F32 :=
  match f32Class a, f32Class b with
  | .nan, _ => f32NaN
  | _, .nan => f32NaN
  | .inf s, .inf t => if s == t then f32Pack s (255 * 2 ^ 23) else f32NaN
  | .inf s, .fin _ _ => f32Pack s (255 * 2 ^ 23)
  | .fin _ _, .inf t => f32Pack t (255 * 2 ^ 23)
  | .fin s m, .fin t n =>
    if s == t then f32Pack s (f32Round (m + n) 1)
    else if m = n then f32Pack false 0
    else if n < m then f32Pack s (f32Round (m - n) 1)
    else f32Pack t (f32Round (n - m) 1)

/-- The quotient, rounded once. -/
def f32Div (a b : F32) : F32 :=
  match f32Class a, f32Class b with
  | .nan, _ => f32NaN
  | _, .nan => f32NaN
  | .inf _, .inf _ => f32NaN
  | .inf s, .fin t _ => f32Pack (s != t) (255 * 2 ^ 23)
  | .fin s _, .inf t => f32Pack (s != t) 0
  | .fin s m, .fin t n =>
    if n = 0 then (if m = 0 then f32NaN else f32Pack (s != t) (255 * 2 ^ 23))
    else f32Pack (s != t) (f32Round (m * 2 ^ 149) n)

/-- The value is a zero. -/
def f32IsZero (a : F32) : Bool := decide (f32Class a = .fin false 0) || decide (f32Class a = .fin true 0)

end Sys2Proof.Machine
end

