-- ==== Sys2Proof/Machine/Mem.lean ====
section
/-! DEFINITION. Machine/Mem.lean: reading and writing a sparse store (R240: a read gives the latest
write to that location, or the power-up value if none), and the canonical form every write keeps. -/

namespace Sys2Proof.Machine

/-- What index `i` holds; an unlisted index holds `d`. -/
def Sparse.get {α : Type} (d : α) : Sparse α → Nat → α
  | [], _ => d
  | (k, v) :: rest, i => if i = k then v else Sparse.get d rest i

/-- Take every entry at index `i` out. -/
def Sparse.erase {α : Type} : Sparse α → Nat → Sparse α
  | [], _ => []
  | (k, v) :: rest, i => if i = k then Sparse.erase rest i else (k, v) :: Sparse.erase rest i

/-- Put `v` at index `i`, in index order. -/
def Sparse.insert {α : Type} : Sparse α → Nat → α → Sparse α
  | [], i, v => [(i, v)]
  | (k, w) :: rest, i, v =>
    if i = k then (k, v) :: rest
    else if i < k then (i, v) :: (k, w) :: rest
    else (k, w) :: Sparse.insert rest i v

/-- Write `v` at index `i`; writing what an unlisted index holds removes the entry. -/
def Sparse.set {α : Type} [DecidableEq α] (d : α) (m : Sparse α) (i : Nat) (v : α) : Sparse α :=
  if v = d then Sparse.erase m i else Sparse.insert m i v

/-- The canonical form from index `lo` to below `hi`: strictly rising, nothing equal to `d`. -/
def Sparse.wf {α : Type} [DecidableEq α] (d : α) (hi : Nat) : Nat → Sparse α → Bool
  | _, [] => true
  | lo, (k, v) :: rest => decide (lo ≤ k) && decide (k < hi) && decide (v ≠ d) && Sparse.wf d hi (k + 1) rest

/-- What an unlisted byte of any memory reads as (log entry 2). -/
def unlistedByte : Byte := 0x00

/-- Read one byte of a memory. -/
def Mem.read (m : Mem) (i : Nat) : Byte := Sparse.get unlistedByte m i

/-- Write one byte of a memory. -/
def Mem.write (m : Mem) (i : Nat) (v : Byte) : Mem := Sparse.set unlistedByte m i v

/-- A memory of `size` bytes is in canonical form. -/
def Mem.wf (size : Nat) (m : Mem) : Bool := Sparse.wf unlistedByte size 0 m

/-- Read one palette entry (6 bits; an unlisted one is 0, log entry 2). -/
def palRead (m : Sparse (BitVec 6)) (i : Nat) : BitVec 6 := Sparse.get 0 m i

/-- Write one palette entry. -/
def palWrite (m : Sparse (BitVec 6)) (i : Nat) (v : BitVec 6) : Sparse (BitVec 6) := Sparse.set 0 m i v

/-- The pixel of column `x` on line `l` (R130). -/
def Picture.get (p : Picture) (l x : Nat) : Pixel := Sparse.get Pixel.blank (Sparse.get [] p l) x

/-- Set the pixel of column `x` on line `l`. -/
def Picture.set (p : Picture) (l x : Nat) (v : Pixel) : Picture :=
  Sparse.set [] p l (Sparse.set Pixel.blank (Sparse.get [] p l) x v)

/-- The picture is in canonical form: 240 rows of 256, no row listed empty. -/
def Picture.wf (p : Picture) : Bool :=
  Sparse.wf [] 240 0 p && p.all (fun r => Sparse.wf Pixel.blank 256 0 r.2)

/-- Every memory of the state is in canonical form. -/
def State.memWf (s : State) : Bool :=
  s.bus.ram.wf 2048 && s.bus.vram.wf 2048 && s.ppu.oam.wf 256
    && Sparse.wf (0 : BitVec 6) 32 0 s.ppu.pal
    && s.cart.prgRam.wf 8192 && s.cart.chrRam.wf 8192
    && s.cart.prg.wf s.cart.prgLen && s.cart.chr.wf s.cart.chrLen
    && s.ppu.fb.wf

end Sys2Proof.Machine
end

