-- ==== Sys2Proof/Machine/Apu.lean ====
section
/-! DEFINITION. Machine/Apu.lean: the APU's tables, shared units, channels, register writes, status read,
frame sequencer and mixer (R1200 to R1299), as functions of the APU alone. The step that also reads the
bus is Machine/ApuStep.lean. -/

namespace Sys2Proof.Machine

/-- Bits `lo + w - 1` to `lo` of a byte (R9). -/
def bits (w : Nat) (d : Byte) (lo : Nat) : BitVec w := (d >>> lo).setWidth w

/-! ## Tables -/

/-- `LENGTH_TABLE` (R1251). -/
def lengthTable : List Byte :=
  [10, 254, 20, 2, 40, 4, 80, 6, 160, 8, 60, 10, 14, 12, 26, 14,
   12, 16, 24, 18, 48, 20, 96, 22, 192, 24, 72, 26, 16, 28, 32, 30]

/-- `LENGTH_TABLE[d[7:3]]` (R1213, R1218, R1223). -/
def lengthOf (d : Byte) : Byte := nthOr 0 lengthTable (bits 5 d 3).toNat

/-- `DUTY[duty][seq]` (R1256), the eight steps in time order. -/
def dutySteps : Nat → List Bool
  | 0 => [false, true, false, false, false, false, false, false]
  | 1 => [false, true, true, false, false, false, false, false]
  | 2 => [false, true, true, true, true, false, false, false]
  | _ => [true, false, false, true, true, true, true, true]

/-- `NOISE_PERIOD` (R1266). -/
def noisePeriod : List Nat :=
  [4, 8, 16, 32, 64, 96, 128, 160, 202, 254, 380, 508, 762, 1016, 2034, 4068]

/-- `DMC_RATE` (R1270). -/
def dmcRate : List Nat :=
  [428, 380, 340, 320, 286, 254, 226, 214, 190, 160, 142, 128, 106, 84, 72, 54]

/-! ## Envelope, sweep, length and linear counters -/

/-- `EnvClock(e, loop)` (R1252). -/
def envClock (e : Envelope) (loop : Bool) : Envelope :=
  if e.start then { e with start := false, decay := 15, divider := e.volume }
  else if e.divider = 0 then
    { e with
      divider := e.volume
      decay := if e.decay ≠ 0 then e.decay - 1 else if loop then 15 else e.decay }
  else { e with divider := e.divider - 1 }

/-- `EnvOut(e)` (R1252). -/
def envOut (e : Envelope) : Nat := (if e.constant then e.volume else e.decay).toNat

/-- `Target(p)` (R1253); `first` says that `p` is p1. -/
def sweepTarget (first : Bool) (p : Pulse) : Int :=
  let c : Int := (p.period.toNat >>> p.sweep.shift.toNat : Nat)
  if p.sweep.negate then (p.period.toNat : Int) - c - (if first then 1 else 0)
  else (p.period.toNat : Int) + c

/-- `Muted(p)` (R1253). -/
def pulseMuted (first : Bool) (p : Pulse) : Bool :=
  decide (p.period.toNat < 8) || decide (0x7FF < sweepTarget first p)

/-- `SweepClock(p)` (R1253). -/
def sweepClock (first : Bool) (p : Pulse) : Pulse :=
  let w := p.sweep
  let period :=
    if w.divider = 0 ∧ w.enabled = true ∧ w.shift ≠ 0 ∧ pulseMuted first p = false
    then BitVec.ofInt 11 (sweepTarget first p) else p.period
  let w' :=
    if w.divider = 0 ∨ w.reload = true then { w with divider := w.dividerPeriod, reload := false }
    else { w with divider := w.divider - 1 }
  { p with period := period, sweep := w' }

/-- A length counter at a half clock (R1250). -/
def lengthClock (length : Byte) (halt : Bool) : Byte :=
  if length ≠ 0 ∧ halt = false then length - 1 else length

/-- The triangle's linear counter at a quarter clock (R1261). -/
def linearClock (t : Triangle) : Triangle :=
  { t with
    linear := if t.linearReloadFlag then t.linearReload
      else if t.linear ≠ 0 then t.linear - 1 else t.linear
    linearReloadFlag := t.linearReloadFlag && t.control }

/-- `QuarterClock()` (R1245). -/
def quarterClock (u : Apu) : Apu :=
  { u with
    p1 := { u.p1 with env := envClock u.p1.env u.p1.halt }
    p2 := { u.p2 with env := envClock u.p2.env u.p2.halt }
    noise := { u.noise with env := envClock u.noise.env u.noise.halt }
    tri := linearClock u.tri }

/-- A pulse channel at a half clock: its length counter and its sweep unit (R1245). -/
def pulseHalf (first : Bool) (p : Pulse) : Pulse :=
  sweepClock first { p with length := lengthClock p.length p.halt }

/-- `HalfClock()` (R1245). -/
def halfClock (u : Apu) : Apu :=
  { u with
    p1 := pulseHalf true u.p1
    p2 := pulseHalf false u.p2
    tri := { u.tri with length := lengthClock u.tri.length u.tri.control }
    noise := { u.noise with length := lengthClock u.noise.length u.noise.halt } }

/-! ## Register writes -/

/-- A write to the `r`-th register of a pulse channel (R1210 to R1213). -/
def pulseWrite (r : Nat) (d : Byte) (p : Pulse) : Pulse :=
  match r with
  | 0 => { p with
      duty := bits 2 d 6, halt := d.getLsbD 5
      env := { p.env with constant := d.getLsbD 4, volume := bits 4 d 0 } }
  | 1 => { p with
      sweep := { p.sweep with
        enabled := d.getLsbD 7, dividerPeriod := bits 3 d 4, negate := d.getLsbD 3
        shift := bits 3 d 0, reload := true } }
  | 2 => { p with period := (p.period &&& 0x700) ||| d.setWidth 11 }
  | _ => { p with
      period := (p.period &&& 0x0FF) ||| ((d &&& 7).setWidth 11 <<< 8)
      length := if p.enabled then lengthOf d else p.length
      seq := 0
      env := { p.env with start := true } }

/-- A write to the `r`-th register of the triangle (R1215 to R1218). -/
def triWrite (r : Nat) (d : Byte) (t : Triangle) : Triangle :=
  match r with
  | 0 => { t with control := d.getLsbD 7, linearReload := bits 7 d 0 }
  | 1 => t
  | 2 => { t with period := (t.period &&& 0x700) ||| d.setWidth 11 }
  | _ => { t with
      period := (t.period &&& 0x0FF) ||| ((d &&& 7).setWidth 11 <<< 8)
      length := if t.enabled then lengthOf d else t.length
      linearReloadFlag := true }

/-- A write to the `r`-th register of the noise channel (R1220 to R1223). While the channel is disabled
a $400F write neither loads the length nor starts the envelope (R1223). -/
def noiseWrite (r : Nat) (d : Byte) (n : Noise) : Noise :=
  match r with
  | 0 => { n with
      halt := d.getLsbD 5
      env := { n.env with constant := d.getLsbD 4, volume := bits 4 d 0 } }
  | 1 => n
  | 2 => { n with mode := d.getLsbD 7, periodIndex := bits 4 d 0 }
  | _ => if n.enabled then { n with length := lengthOf d, env := { n.env with start := true } } else n

/-- A write to the `r`-th register of the DMC (R1224 to R1227). -/
def dmcWrite (r : Nat) (d : Byte) (c : Dmc) : Dmc :=
  match r with
  | 0 => { c with
      irqEnable := d.getLsbD 7, loop := d.getLsbD 6, rateIndex := bits 4 d 0
      irqFlag := c.irqFlag && d.getLsbD 7 }
  | 1 => { c with output := bits 7 d 0 }
  | 2 => { c with sampleAddr := 0xC000 + (d.setWidth 16 <<< 6) }
  | _ => { c with sampleLen := (d.setWidth 12 <<< 4) + 1 }

/-- The channel-enable write's effect on the DMC (R1229). -/
def dmcEnable (on : Bool) (c : Dmc) : Dmc :=
  let c := { c with irqFlag := false }
  if on = false then { c with bytesRemaining := 0 }
  else if c.bytesRemaining = 0 then { c with curAddr := c.sampleAddr, bytesRemaining := c.sampleLen }
  else c

/-- A write to $4015 (R1229). -/
def writeChannelEnable (d : Byte) (u : Apu) : Apu :=
  { u with
    p1 := { u.p1 with enabled := d.getLsbD 0, length := if d.getLsbD 0 then u.p1.length else 0 }
    p2 := { u.p2 with enabled := d.getLsbD 1, length := if d.getLsbD 1 then u.p2.length else 0 }
    tri := { u.tri with enabled := d.getLsbD 2, length := if d.getLsbD 2 then u.tri.length else 0 }
    noise := { u.noise with
      enabled := d.getLsbD 3, length := if d.getLsbD 3 then u.noise.length else 0 }
    dmc := dmcEnable (d.getLsbD 4) u.dmc }

/-- FRAME_RESET_DELAY (R8, R1240, D38). -/
def frameResetDelay (t : Nat) : Nat := if t % 2 = 0 then 2 else 3

/-- A write to $4017 at time `t` (R1240). -/
def writeFrameCounter (t : Nat) (d : Byte) (u : Apu) : Apu :=
  let u := { u with seq := { u.seq with
    mode := d.getLsbD 7, inhibit := d.getLsbD 6, frameIrq := u.seq.frameIrq && !d.getLsbD 6 } }
  let u := if d.getLsbD 7 then halfClock (quarterClock u) else u
  { u with seq := { u.seq with resetDelay := some (frameResetDelay t) } }

/-- `ApuRegWrite(a, d)` at time `t` (R1201), for a = $4000 + `r`. -/
def apuRegWrite (t r : Nat) (d : Byte) (u : Apu) : Apu :=
  if r < 0x04 then { u with p1 := pulseWrite r d u.p1 }
  else if r < 0x08 then { u with p2 := pulseWrite (r - 0x04) d u.p2 }
  else if r < 0x0C then { u with tri := triWrite (r - 0x08) d u.tri }
  else if r < 0x10 then { u with noise := noiseWrite (r - 0x0C) d u.noise }
  else if r < 0x14 then { u with dmc := dmcWrite (r - 0x10) d u.dmc }
  else if r = 0x15 then writeChannelEnable d u
  else if r = 0x17 then writeFrameCounter t d u
  else u

/-! ## Status -/

/-- The byte a read of $4015 returns; bit 5 is open bus (R1230). -/
def apuStatusByte (latch : Byte) (u : Apu) : Byte :=
  flagByte u.dmc.irqFlag 7 ||| flagByte u.seq.frameIrq 6 ||| (latch &&& 0x20)
    ||| flagByte (u.dmc.bytesRemaining != 0) 4 ||| flagByte (u.noise.length != 0) 3
    ||| flagByte (u.tri.length != 0) 2 ||| flagByte (u.p2.length != 0) 1 ||| flagByte (u.p1.length != 0) 0

/-- The read clears the frame interrupt, not the DMC's (R1230). -/
def ackFrameIrq (u : Apu) : Apu := { u with seq := { u.seq with frameIrq := false } }

/-! ## Frame sequencer -/

/-- `SetFrameIrq` (R1242). -/
def setFrameIrq (u : Apu) : Apu :=
  { u with seq := { u.seq with frameIrq := u.seq.frameIrq || !u.seq.inhibit } }

/-- `fc <- 0` (R1242, R1243). -/
def zeroFc (u : Apu) : Apu := { u with seq := { u.seq with fc := 0 } }

/-- The events at `fc` in the four-step mode (R1242). -/
def fourStepEvent (u : Apu) : Apu :=
  match u.seq.fc with
  | 7457 => quarterClock u
  | 14913 => halfClock (quarterClock u)
  | 22371 => quarterClock u
  | 29828 => setFrameIrq u
  | 29829 => setFrameIrq (halfClock (quarterClock u))
  | 29830 => zeroFc (setFrameIrq u)
  | _ => u

/-- The events at `fc` in the five-step mode (R1243). -/
def fiveStepEvent (u : Apu) : Apu :=
  match u.seq.fc with
  | 7457 => quarterClock u
  | 14913 => halfClock (quarterClock u)
  | 22371 => quarterClock u
  | 37281 => halfClock (quarterClock u)
  | 37282 => zeroFc u
  | _ => u

/-- The count and the events of `FrameSeqStep`, after the delay (R1241). -/
def frameSeqCount (u : Apu) : Apu :=
  let u := { u with seq := { u.seq with fc := u.seq.fc + 1 } }
  if u.seq.mode then fiveStepEvent u else fourStepEvent u

/-- `FrameSeqStep()` (R1241). -/
def frameSeqStep (u : Apu) : Apu :=
  match u.seq.resetDelay with
  | none => frameSeqCount u
  | some k =>
    if k - 1 = 0 then { u with seq := { u.seq with resetDelay := none, fc := 0 } }
    else frameSeqCount { u with seq := { u.seq with resetDelay := some (k - 1) } }

/-! ## Channels -/

/-- `PulseTimer(p)` (R1255). -/
def pulseTimer (p : Pulse) : Pulse :=
  if p.timer = 0 then { p with timer := p.period, seq := p.seq + 1 }
  else { p with timer := p.timer - 1 }

/-- `PulseOut(p)` (R1255). -/
def pulseOut (first : Bool) (p : Pulse) : Nat :=
  if p.length = 0 ∨ pulseMuted first p = true
      ∨ nthOr false (dutySteps p.duty.toNat) p.seq.toNat = false
  then 0 else envOut p.env

/-- `TriangleTimer()` (R1260). -/
def triangleTimer (t : Triangle) : Triangle :=
  if t.timer = 0 then
    { t with
      timer := t.period
      seq := if t.length ≠ 0 ∧ t.linear ≠ 0 then t.seq + 1 else t.seq }
  else { t with timer := t.timer - 1 }

/-- `TriOut()` (R1260). [DESIGN CHOICE] R1250's 'A channel whose length is 0 outputs 0' names the triangle
too, R1260 says that its output 'does not drop to 0'; R1260 is followed (log entry 19). -/
def triOut (t : Triangle) : Nat := if t.seq.toNat < 16 then 15 - t.seq.toNat else t.seq.toNat - 16

/-- One clock of the noise shift register (R1265). -/
def lfsrClock (mode : Bool) (r : BitVec 15) : BitVec 15 :=
  let fb := r.getLsbD 0 != (if mode then r.getLsbD 6 else r.getLsbD 1)
  (r >>> 1) ||| (if fb then 0x4000 else 0)

/-- `NoiseTimer()` (R1265). -/
def noiseTimer (n : Noise) : Noise :=
  if n.timer = 0 then
    { n with
      timer := BitVec.ofNat 12 (nthOr 0 noisePeriod n.periodIndex.toNat - 1)
      lfsr := lfsrClock n.mode n.lfsr }
  else { n with timer := n.timer - 1 }

/-- `NoiseOut()` (R1265). -/
def noiseOut (n : Noise) : Nat := if n.length = 0 ∨ n.lfsr.getLsbD 0 = true then 0 else envOut n.env

/-- The DMC output level after one shifted bit (R1271). -/
def dmcLevel (c : Dmc) : BitVec 7 :=
  if c.silence then c.output
  else if c.shift.getLsbD 0 then (if c.output.toNat ≤ 125 then c.output + 2 else c.output)
  else (if 2 ≤ c.output.toNat then c.output - 2 else c.output)

/-- `DmcTimer()` (R1271). -/
def dmcTimer (c : Dmc) : Dmc :=
  if c.timer = 0 then
    let c := { c with
      timer := BitVec.ofNat 9 (nthOr 0 dmcRate c.rateIndex.toNat - 1)
      output := dmcLevel c, shift := c.shift >>> 1, bitsRemaining := c.bitsRemaining - 1 }
    if c.bitsRemaining = 0 then
      match c.buffer with
      | none => { c with bitsRemaining := 8, silence := true }
      | some b => { c with bitsRemaining := 8, silence := false, shift := b, buffer := none }
    else c
  else { c with timer := c.timer - 1 }

/-- DMC_STALL (R8, R1276, D41). -/
def dmcStallCycles : Nat := 4

/-- The reader wants a byte (R1276). -/
def Dmc.wantsByte (c : Dmc) : Bool := c.buffer.isNone && c.bytesRemaining != 0

/-- The reader after the byte `b` arrived (R1276). -/
def dmcTake (b : Byte) (c : Dmc) : Dmc :=
  let c := { c with
    buffer := some b
    curAddr := if c.curAddr = 0xFFFF then 0x8000 else c.curAddr + 1
    bytesRemaining := c.bytesRemaining - 1 }
  if c.bytesRemaining = 0 then
    if c.loop then { c with curAddr := c.sampleAddr, bytesRemaining := c.sampleLen }
    else { c with irqFlag := c.irqFlag || c.irqEnable }
  else c

/-! ## Mixer -/

/-- The two pulses' term of `Mix()` (R1280). -/
def mixPulse (n : Nat) : F32 :=
  if n = 0 then 0
  else f32Div (f32OfRat 9588 100) (f32Add (f32Div (f32OfNat 8128) (f32OfNat n)) (f32OfNat 100))

/-- The triangle, noise and DMC term of `Mix()` (R1280). -/
def mixTnd (tri noise dmc : Nat) : F32 :=
  let tv := f32Add (f32Add (f32Div (f32OfNat tri) (f32OfNat 8227)) (f32Div (f32OfNat noise) (f32OfNat 12241)))
    (f32Div (f32OfNat dmc) (f32OfNat 22638))
  if f32IsZero tv then 0
  else f32Div (f32OfRat 15979 100) (f32Add (f32Div (f32OfNat 1) tv) (f32OfNat 100))

/-- `Mix()` (R1280). -/
def mixSample (u : Apu) : F32 :=
  f32Add (mixPulse (pulseOut true u.p1 + pulseOut false u.p2))
    (mixTnd (triOut u.tri) (noiseOut u.noise) u.dmc.output.toNat)

/-- `MixerSample()` (R1281), with SAMPLE_PERIOD `period`. -/
def mixerSample (period : Nat) (u : Apu) : Apu :=
  let acc := f32Add u.mix.sampleAcc (mixSample u)
  let count := u.mix.sampleCount + 1
  if period ≤ count then
    { u with mix := {
        sampleAcc := 0, sampleCount := 0
        audio := u.mix.audio ++ [f32Div acc (f32OfNat count)] } }
  else { u with mix := { u.mix with sampleAcc := acc, sampleCount := count } }

end Sys2Proof.Machine
end

