-- ==== Sys2Proof/Machine/Mapper.lean ====
section
/-! DEFINITION. Machine/Mapper.lean: the cartridge mapper, a closed tagged-variant type dispatched by the
bus (R1400 to R1471): program reads and writes, graphics reads and writes, mirroring, the interrupt
flag, the A12 notification and loading. -/

namespace Sys2Proof.Machine

/-! ## Bank translation -/

/-- `Bank(req, S, len) = req mod (len / S)` (R1405). [DESIGN CHOICE] Where `len` is no whole number of
windows, which only AxROM's 32 KiB window can meet, the bank count is the number of whole ones (log
entry 20). -/
def bankOf (req size len : Nat) : Nat := req % (len / size)

/-- The image offset of address `a` in a window of `size` bytes that shows bank `req` (R1404, R1406). -/
def bankOffset (req size len a : Nat) : Nat := bankOf req size len * size + a % size

/-! ## Program side -/

/-- MMC1's 16 KiB unit at `a` (R1423). -/
def Mmc1.prgUnit (m : Mmc1) (n16 a : Nat) : Nat :=
  let low := decide (a < 0xC000)
  match (m.control >>> 2).toNat % 4 with
  | 2 => if low then 0 else m.prg.toNat % 16
  | 3 => if low then m.prg.toNat % 16 else n16 - 1
  | _ => 2 * (m.prg.toNat / 2 % 8) + (if low then 0 else 1)

/-- MMC3's 8 KiB bank at `a` (R1451). -/
def Mmc3.prgBank (m : Mmc3) (n8 a : Nat) : Nat :=
  if a < 0xA000 then (if m.prgMode then n8 - 2 else m.r6.toNat)
  else if a < 0xC000 then m.r7.toNat
  else if a < 0xE000 then (if m.prgMode then m.r6.toNat else n8 - 2)
  else n8 - 1

/-- The PRG image offset that `a` in $8000-$FFFF reads (R1404, R1410, R1423, R1430, R1440, R1451,
R1460). [DESIGN CHOICE] With an NROM or CNROM image above 32 KiB, R1554 has the vectors in its last 16
KiB, R1410 and R1440 in its second; R1410 and R1440 are followed (log entry 21). -/
def Cart.prgOffset (c : Cart) (a : Nat) : Nat :=
  match c.mapper with
  | .nrom => (a - 0x8000) % c.prgLen
  | .cnrom _ => (a - 0x8000) % c.prgLen
  | .mmc1 m => bankOffset (m.prgUnit (c.prgLen / 16384) a) 16384 c.prgLen a
  | .uxrom bank =>
    bankOffset (if a < 0xC000 then bank.toNat else c.prgLen / 16384 - 1) 16384 c.prgLen a
  | .mmc3 m => bankOffset (m.prgBank (c.prgLen / 8192) a) 8192 c.prgLen a
  | .axrom bank _ => bankOffset bank.toNat 32768 c.prgLen a

/-- The image holds a whole bank of the window size (R1405: `len / S >= 1`). Only a 16 KiB image on AxROM
does not (log entry 15). -/
def Cart.hasPrgBank (c : Cart) : Bool :=
  match c.mapper with
  | .axrom _ _ => decide (32768 ≤ c.prgLen)
  | .nrom => true
  | .mmc1 _ => true
  | .uxrom _ => true
  | .cnrom _ => true
  | .mmc3 _ => true

/-- `cpu_read(a)` for a in $6000-$FFFF (R1402): PRG-RAM below $8000 (R1403), PRG-ROM above (R1404). -/
def Cart.cpuRead (c : Cart) (a : Nat) : Byte :=
  if a < 0x8000 then c.prgRam.read (a - 0x6000)
  else if c.hasPrgBank then c.prg.read (c.prgOffset a)
  else Config.absentPrg a

/-- A write to MMC1's serial port (R1420). -/
def Mmc1.write (m : Mmc1) (a : Nat) (d : Byte) : Mmc1 :=
  if d.getLsbD 7 then { m with shift := 0x10, control := m.control ||| 0x0C }
  else
    let next : BitVec 5 := (m.shift >>> 1) ||| (if d.getLsbD 0 then 0x10 else 0)
    if m.shift.getLsbD 0 then
      match a / 0x2000 % 4 with
      | 0 => { m with control := next, shift := 0x10 }
      | 1 => { m with chr0 := next, shift := 0x10 }
      | 2 => { m with chr1 := next, shift := 0x10 }
      | _ => { m with prg := next, shift := 0x10 }
    else { m with shift := next }

/-- `R[target] <- d` (R1450). -/
def Mmc3.setBank (m : Mmc3) (d : Byte) : Mmc3 :=
  match m.target.toNat with
  | 0 => { m with r0 := d }
  | 1 => { m with r1 := d }
  | 2 => { m with r2 := d }
  | 3 => { m with r3 := d }
  | 4 => { m with r4 := d }
  | 5 => { m with r5 := d }
  | 6 => { m with r6 := d }
  | _ => { m with r7 := d }

/-- A write to an MMC3 register, selected by `a & $E001` (R1450). -/
def Mmc3.write (m : Mmc3) (a : Nat) (d : Byte) : Mmc3 :=
  let odd := decide (a % 2 = 1)
  match a / 0x2000 % 4, odd with
  | 0, false => { m with target := d.setWidth 3, prgMode := d.getLsbD 6, chrInv := d.getLsbD 7 }
  | 0, true => m.setBank d
  | 1, false => { m with mirror := if d.getLsbD 0 then .horizontal else .vertical }
  | 1, true => { m with ramProtect := d }
  | 2, false => { m with irqLatch := d }
  | 2, true => { m with irqCounter := 0, irqReload := true }
  | _, false => { m with irqEnabled := false, irqPending := false }
  | _, true => { m with irqEnabled := true }

/-- A write to the mapper's registers in $8000-$FFFF; NROM has none (R214, R1410, R1420, R1430, R1440,
R1450, R1460). -/
def Mapper.write (m : Mapper) (a : Nat) (d : Byte) : Except FaultKind Mapper :=
  match m with
  | .nrom => .error .romWrite
  | .mmc1 r => .ok (.mmc1 (r.write a d))
  | .uxrom _ => .ok (.uxrom d)
  | .cnrom _ => .ok (.cnrom d)
  | .mmc3 r => .ok (.mmc3 (r.write a d))
  | .axrom _ _ => .ok (.axrom (d.setWidth 3) (d.getLsbD 4))

/-- `cpu_write(a, d)` for a in $6000-$FFFF (R1402, R1403). -/
def Cart.cpuWrite (c : Cart) (a : Nat) (d : Byte) : Except FaultKind Cart :=
  if a < 0x8000 then .ok { c with prgRam := c.prgRam.write (a - 0x6000) d }
  else
    match c.mapper.write a d with
    | .ok m => .ok { c with mapper := m }
    | .error f => .error f

/-! ## Graphics side -/

/-- The size of the graphics storage: CHR-RAM is 8 KiB (R1406). -/
def Cart.chrSize (c : Cart) : Nat := if c.chrLen = 0 then 8192 else c.chrLen

/-- MMC1's 4 KiB unit at `a` (R1424). -/
def Mmc1.chrUnit (m : Mmc1) (a : Nat) : Nat :=
  if m.control.getLsbD 4 then (if a < 0x1000 then m.chr0.toNat else m.chr1.toNat)
  else 2 * (m.chr0.toNat / 2) + a / 4096 % 2

/-- MMC3's 1 KiB unit in the `k`-th window of the layout with `chr_inv = 0` (R1453). -/
def Mmc3.chrWindow (m : Mmc3) (k : Nat) : Nat :=
  match k with
  | 0 => (m.r0 &&& 0xFE).toNat
  | 1 => (m.r0 ||| 1).toNat
  | 2 => (m.r1 &&& 0xFE).toNat
  | 3 => (m.r1 ||| 1).toNat
  | 4 => m.r2.toNat
  | 5 => m.r3.toNat
  | 6 => m.r4.toNat
  | _ => m.r5.toNat

/-- MMC3's 1 KiB unit at `a`: with `chr_inv` the two halves change places (R1453). -/
def Mmc3.chrUnit (m : Mmc3) (a : Nat) : Nat :=
  m.chrWindow ((a / 1024 + (if m.chrInv then 4 else 0)) % 8)

/-- The graphics offset that `a` in $0000-$1FFF reads (R1406, R1411, R1424, R1431, R1441, R1453,
R1461). -/
def Cart.chrOffset (c : Cart) (a : Nat) : Nat :=
  match c.mapper with
  | .nrom => a
  | .uxrom _ => a
  | .axrom _ _ => a
  | .mmc1 m => bankOffset (m.chrUnit a) 4096 c.chrSize a
  | .cnrom bank => bankOffset bank.toNat 8192 c.chrSize a
  | .mmc3 m => bankOffset (m.chrUnit a) 1024 c.chrSize a

/-- `chr_read(a)` (R1402, R1406). -/
def Cart.chrRead (c : Cart) (a : Nat) : Byte :=
  if c.chrLen = 0 then c.chrRam.read (c.chrOffset a) else c.chr.read (c.chrOffset a)

/-- `chr_write(a, d)` (R214, R1402, R1406). -/
def Cart.chrWrite (c : Cart) (a : Nat) (d : Byte) : Except FaultKind Cart :=
  if c.chrLen = 0 then .ok { c with chrRam := c.chrRam.write (c.chrOffset a) d }
  else .error .romWrite

/-! ## Mirroring, interrupt and A12 -/

/-- `mirroring()` (R231, R1402, R1411, R1421, R1431, R1441, R1454, R1460). -/
def Cart.mirroring (c : Cart) : Mirroring :=
  match c.mapper with
  | .nrom => c.mirrorFlag
  | .uxrom _ => c.mirrorFlag
  | .cnrom _ => c.mirrorFlag
  | .mmc1 m =>
    match m.control.toNat % 4 with
    | 0 => .singleLower
    | 1 => .singleUpper
    | 2 => .vertical
    | _ => .horizontal
  | .mmc3 m => m.mirror
  | .axrom _ single => if single then .singleUpper else .singleLower

/-- `irq_pending()` (R1402, R1457). -/
def Mapper.irqPending : Mapper → Bool
  | .mmc3 m => m.irqPending
  | .nrom => false
  | .mmc1 _ => false
  | .uxrom _ => false
  | .cnrom _ => false
  | .axrom _ _ => false

/-- MMC3's counter at an A12 rise (R1456). -/
def Mmc3.a12Rise (m : Mmc3) : Mmc3 :=
  let m :=
    if m.irqCounter = 0 ∨ m.irqReload = true then { m with irqCounter := m.irqLatch, irqReload := false }
    else { m with irqCounter := m.irqCounter - 1 }
  if m.irqCounter = 0 ∧ m.irqEnabled = true then { m with irqPending := true } else m

/-- `a12_rise()`: no effect except for MMC3 (R1402, R1456). -/
def Mapper.a12Rise : Mapper → Mapper
  | .mmc3 m => .mmc3 m.a12Rise
  | m => m

/-! ## Loading (R1401) -/

/-- The loader's mirroring flag; a four-screen image is one the CORE does not accept (R1401, D49). -/
inductive LoaderMirroring where
  | horizontal | vertical | fourScreen
deriving DecidableEq, Repr

/-- The mirroring mode of an accepted flag. -/
def LoaderMirroring.mode? : LoaderMirroring → Option Mirroring
  | .horizontal => some .horizontal
  | .vertical => some .vertical
  | .fourScreen => none

/-- The variant of a mapper number, before its power-up rule (R1400); the registers here are replaced
by `Mapper.powerUp`. -/
def mapperOfNumber : Nat → Option Mapper
  | 0 => some .nrom
  | 1 => some (.mmc1 ⟨0, 0, 0, 0, 0⟩)
  | 2 => some (.uxrom 0)
  | 3 => some (.cnrom 0)
  | 4 => some (.mmc3 ⟨0, false, false, 0, 0, 0, 0, 0, 0, 0, 0, .horizontal, 0, 0, 0, false, false, false⟩)
  | 7 => some (.axrom 0 false)
  | _ => none

/-- The store that holds a buffer from index `i` on, in canonical form. -/
def memOfBytes (i : Nat) : List Byte → Mem
  | [] => []
  | b :: rest => if b = unlistedByte then memOfBytes (i + 1) rest else (i, b) :: memOfBytes (i + 1) rest

/-- Load an image (R1401): accepted only with a mapper number of R1400's table, a PRG length that is a
positive multiple of 16 KiB, a CHR length that is a multiple of 8 KiB, and a Horizontal or Vertical
flag; otherwise no cartridge and so no initial state (R16). The images are stored unpadded (C2). -/
def loadCart (number : Nat) (flag : LoaderMirroring) (prg chr : List Byte) : Except Refusal Cart :=
  match mapperOfNumber number, flag.mode? with
  | some m, some mode =>
    if prg.length ≠ 0 ∧ prg.length % 16384 = 0 ∧ chr.length % 8192 = 0 then
      .ok { prg := memOfBytes 0 prg, prgLen := prg.length, chr := memOfBytes 0 chr,
            chrLen := chr.length, mirrorFlag := mode, prgRam := [], chrRam := [],
            mapper := m.powerUp mode }
    else .error (.unacceptableImage number)
  | _, _ => .error (.unacceptableImage number)

end Sys2Proof.Machine
end

