-- ==== Sys2Proof/Machine/Stop.lean ====
section
/-! DEFINITION. Machine/Stop.lean: faulting and refusing (R11, R15, R16), each at the point where it
happens (R1501). -/

namespace Sys2Proof.Machine

/-- A fault, or the value. -/
abbrev Res (α : Type) := Except Fault α

/-- `raise Fault(k)` in state `s` (R11): the fault state is `s` with its mark (R124, R1501). -/
def raise (k : FaultKind) (s : State) : Fault :=
  match k with
  | .romWrite => .romWrite { s with fault := some .romWrite }
  | .internalDecode => .internalDecode { s with fault := some .internalDecode }

/-- `refuse(r)` in state `s` (R11): the state refused is `s` with its mark (R124). -/
def refuse (r : RefusalReason) (s : State) : Refusal :=
  match r with
  | .unstableOpcode op => .unstableOpcode op { s with refused := some (.unstableOpcode op) }

/-- The fault state. -/
def Fault.state : Fault → State
  | .romWrite s => s
  | .internalDecode s => s

/-- The state at the refusal; `s` for the refusals that have none, which no cycle answers. -/
def Refusal.stateOr (s : State) : Refusal → State
  | .unstableOpcode _ t => t
  | _ => s

end Sys2Proof.Machine
end

