-- ==== Sys2Proof/Machine/Ppu.lean ====
section
/-! DEFINITION. Machine/Ppu.lean: the PPU bus (R230 to R233), the registers as the CPU sees them (R1010 to
R1033), the dot procedure (R1040 to R1072), the frame boundary (R1003), the NMI output (R1090,
R1091) and the A12 observer (R1096). -/

namespace Sys2Proof.Machine

/-! ## The PPU bus -/

/-- The 1 KiB bank of VRAM that shows as nametable `n` (R231). -/
def ntBank (m : Mirroring) (n : Nat) : Nat :=
  match m with
  | .horizontal => n / 2
  | .vertical => n % 2
  | .singleLower => 0
  | .singleUpper => 1

/-- `NtIndex(a)` (R231). -/
def ntIndex (m : Mirroring) (a : BitVec 14) : Nat :=
  ntBank m (a.toNat / 0x400 % 4) * 0x400 + a.toNat % 0x400

/-- `PalIndex(a)` (R232). -/
def palIndex (a : BitVec 14) : Nat :=
  let i : BitVec 5 := a.setWidth 5
  (if i &&& 0x13 = 0x10 then i &&& 0x0F else i).toNat

/-- The mapper after the observer saw address line 12 at `level`: a rise is reported (R1096). -/
def a12Mapper (level last : Bool) (m : Mapper) : Mapper := if level && !last then m.a12Rise else m

/-- `A12Observe(a)` (R1096, R233). -/
def a12Observe (a : BitVec 14) (s : State) : State :=
  let level := a.getLsbD 12
  { s with
    cart := { s.cart with mapper := a12Mapper level s.ppu.lastA12 s.cart.mapper }
    ppu := { s.ppu with lastA12 := level } }

/-- `PpuRead(a)` (R230). -/
def ppuRead (a : BitVec 14) (s : State) : Byte × State :=
  if a ≤ 0x1FFF then
    let s := a12Observe a s
    (s.cart.chrRead a.toNat, s)
  else if a ≤ 0x3EFF then (s.bus.vram.read (ntIndex s.cart.mirroring a), s)
  else ((palRead s.ppu.pal (palIndex a)).setWidth 8, s)

/-- `PpuWrite(a, d)` (R230, R214). -/
def ppuWrite (a : BitVec 14) (d : Byte) (s : State) : Res State :=
  if a ≤ 0x1FFF then
    let s := a12Observe a s
    match s.cart.chrWrite a.toNat d with
    | .ok c => .ok { s with cart := c }
    | .error k => .error (raise k s)
  else if a ≤ 0x3EFF then
    .ok { s with bus := { s.bus with vram := s.bus.vram.write (ntIndex s.cart.mirroring a) d } }
  else .ok { s with ppu := { s.ppu with pal := palWrite s.ppu.pal (palIndex a) (d.setWidth 6) } }

/-! ## Register fields -/

/-- PPUCTRL bit 2 (R1011). -/
def Ppu.inc32 (p : Ppu) : Bool := p.ctrl.getLsbD 2
/-- PPUCTRL bit 3 (R1011). -/
def Ppu.sprTable (p : Ppu) : Bool := p.ctrl.getLsbD 3
/-- PPUCTRL bit 4 (R1011). -/
def Ppu.bgTable (p : Ppu) : Bool := p.ctrl.getLsbD 4
/-- PPUCTRL bit 5 (R1011). -/
def Ppu.sprSize16 (p : Ppu) : Bool := p.ctrl.getLsbD 5
/-- PPUCTRL bit 7 (R1011). -/
def Ppu.nmiEnable (p : Ppu) : Bool := p.ctrl.getLsbD 7
/-- PPUMASK bit 0 (R1012). -/
def Ppu.grey (p : Ppu) : Bool := p.mask.getLsbD 0
/-- PPUMASK bit 1 (R1012). -/
def Ppu.bgLeft (p : Ppu) : Bool := p.mask.getLsbD 1
/-- PPUMASK bit 2 (R1012). -/
def Ppu.sprLeft (p : Ppu) : Bool := p.mask.getLsbD 2
/-- PPUMASK bit 3 (R1012). -/
def Ppu.showBg (p : Ppu) : Bool := p.mask.getLsbD 3
/-- PPUMASK bit 4 (R1012). -/
def Ppu.showSpr (p : Ppu) : Bool := p.mask.getLsbD 4
/-- PPUMASK bits 7..5 (R1012). -/
def Ppu.emphasis (p : Ppu) : BitVec 3 := (p.mask >>> 5).setWidth 3
/-- `rendering` (R1015). -/
def Ppu.rendering (p : Ppu) : Bool := p.showBg || p.showSpr
/-- The NMI output level (R1090). -/
def Ppu.nmiOut (p : Ppu) : Bool := p.vblank && p.nmiEnable

/-! ## Register writes and reads -/

/-- `v & ~m` on a 15-bit VRAM address (R9, R1010). -/
def cleared (v m : BitVec 15) : BitVec 15 := v &&& ~~~m

/-- `VramIncrement()` (R1028). -/
def vramIncrement (p : Ppu) : Ppu := { p with v := p.v + (if p.inc32 then 32 else 1) }

/-- Withdraw a pending NMI and one an earlier poll of the instruction recorded (R1031, R1091). -/
def cancelNmi (c : Cpu) : Cpu :=
  { c with nmiPending := false, intReq := if c.intReq = some .nmi then none else c.intReq }

/-- A write to $2000 (R1021) with its NMI toggle window (R1091). -/
def writePpuCtrl (d : Byte) (s : State) : State :=
  let old := s.ppu.nmiEnable
  let nt : BitVec 15 := (d &&& 3).setWidth 15 <<< 10
  let s := { s with ppu := { s.ppu with ctrl := d, t := (cleared s.ppu.t 0x0C00) ||| nt } }
  if old = true ∧ d.getLsbD 7 = false ∧ s.ppu.line = 241 ∧ (s.ppu.dot = 2 ∨ s.ppu.dot = 3)
  then { s with cpu := cancelNmi s.cpu } else s

/-- A write to $2004 (R1024). -/
def writeOamData (d : Byte) (p : Ppu) : Ppu :=
  { p with oam := p.oam.write p.oamaddr.toNat d, oamaddr := p.oamaddr + 1 }

/-- A write to $2005 (R1025). -/
def writeScroll (d : Byte) (p : Ppu) : Ppu :=
  if p.w = false then
    { p with t := (cleared p.t 0x001F) ||| (d >>> 3).setWidth 15, x := d.setWidth 3, w := true }
  else
    { p with t := (cleared p.t 0x73E0) ||| ((d &&& 7).setWidth 15 <<< 12) ||| ((d >>> 3).setWidth 15 <<< 5)
             w := false }

/-- A write to $2006 (R1026). -/
def writeVramAddr (d : Byte) (p : Ppu) : Ppu :=
  if p.w = false then
    { p with t := (p.t &&& 0x00FF) ||| ((d &&& 0x3F).setWidth 15 <<< 8), w := true }
  else
    let t := (p.t &&& 0x7F00) ||| d.setWidth 15
    { p with t := t, v := t, w := false }

/-- A write to $2007 (R1027). -/
def writeVramData (d : Byte) (s : State) : Res State :=
  match ppuWrite (s.ppu.v.setWidth 14) d s with
  | .ok s => .ok { s with ppu := vramIncrement s.ppu }
  | .error f => .error f

/-- `PpuRegWrite(r, d)` (R1020). -/
def ppuRegWrite (r : Nat) (d : Byte) (s : State) : Res State :=
  match r with
  | 0 => .ok (writePpuCtrl d s)
  | 1 => .ok { s with ppu := { s.ppu with mask := d } }
  | 2 => .ok s
  | 3 => .ok { s with ppu := { s.ppu with oamaddr := d } }
  | 4 => .ok { s with ppu := writeOamData d s.ppu }
  | 5 => .ok { s with ppu := writeScroll d s.ppu }
  | 6 => .ok { s with ppu := writeVramAddr d s.ppu }
  | _ => writeVramData d s

/-- PPUSTATUS as it reads (R1013). -/
def statusByte (s : State) : Byte :=
  flagByte s.ppu.vblank 7 ||| flagByte s.ppu.s0hit 6 ||| flagByte s.ppu.overflow 5
    ||| (s.bus.ppuLatch &&& 0x1F)

/-- `StatusRead()` (R1031). -/
def statusRead (s : State) : Byte × State :=
  let val := statusByte s
  let p := s.ppu
  let suppress := p.suppressVbl || (decide (p.line = 241) && decide (p.dot = 1))
  let cpu := if p.line = 241 ∧ (p.dot = 2 ∨ p.dot = 3) then cancelNmi s.cpu else s.cpu
  (val, { s with ppu := { p with suppressVbl := suppress, vblank := false, w := false }, cpu := cpu })

/-- `OamRead()` (R1032). -/
def oamRead (p : Ppu) : Byte :=
  let b := p.oam.read p.oamaddr.toNat
  if p.oamaddr &&& 3 = 2 then b &&& 0xE3 else b

/-- A colour index through the greyscale bit (R1012, R1033, R1070). -/
def greyed (p : Ppu) (c : BitVec 6) : BitVec 6 := if p.grey then c &&& 0x30 else c

/-- `DataRead()` (R1033). -/
def dataRead (s : State) : Byte × State :=
  let a : BitVec 14 := s.ppu.v.setWidth 14
  if a < 0x3F00 then
    let val := s.ppu.rdbuf
    let (b, s) := ppuRead a s
    (val, { s with ppu := vramIncrement { s.ppu with rdbuf := b } })
  else
    let p := greyed s.ppu (palRead s.ppu.pal (palIndex a))
    let val := (s.bus.ppuLatch &&& 0xC0) ||| p.setWidth 8
    let (b, s) := ppuRead (a - 0x1000) s
    (val, { s with ppu := vramIncrement { s.ppu with rdbuf := b } })

/-- The returned byte of a readable register goes into the PPU latch (R212, R1030). -/
def latchPpu (r : Byte × State) : Byte × State :=
  (r.1, { r.2 with bus := { r.2.bus with ppuLatch := r.1 } })

/-- `PpuRegRead(r)` (R1030): a write-only register reads the latch and leaves it. -/
def ppuRegRead (r : Nat) (s : State) : Byte × State :=
  match r with
  | 2 => latchPpu (statusRead s)
  | 4 => latchPpu (oamRead s.ppu, s)
  | 7 => latchPpu (dataRead s)
  | _ => (s.bus.ppuLatch, s)

/-! ## The background pipeline -/

/-- `ShiftBg()` (R1042). -/
def shiftBg (p : Ppu) : Ppu :=
  { p with bgLo := p.bgLo <<< 1, bgHi := p.bgHi <<< 1, atLo := p.atLo <<< 1, atHi := p.atHi <<< 1 }

/-- `ReloadBg()` (R1042). -/
def reloadBg (p : Ppu) : Ppu :=
  { p with
    bgLo := (p.bgLo &&& 0xFF00) ||| p.ptLoLatch.setWidth 16
    bgHi := (p.bgHi &&& 0xFF00) ||| p.ptHiLatch.setWidth 16
    atLo := (p.atLo &&& 0xFF00) ||| (if p.atLatch.getLsbD 0 then 0x00FF else 0)
    atHi := (p.atHi &&& 0xFF00) ||| (if p.atLatch.getLsbD 1 then 0x00FF else 0) }

/-- `IncCoarseX()` on v (R1043). -/
def incCoarseX (v : BitVec 15) : BitVec 15 :=
  if v &&& 0x001F = 31 then (cleared v 0x001F) ^^^ 0x0400 else v + 1

/-- `IncY()` on v (R1043). -/
def incY (v : BitVec 15) : BitVec 15 :=
  if v &&& 0x7000 ≠ 0x7000 then v + 0x1000
  else
    let v := cleared v 0x7000
    let cy := (v >>> 5) &&& 31
    if cy = 29 then cleared (v ^^^ 0x0800) 0x03E0
    else if cy = 31 then cleared v 0x03E0
    else (cleared v 0x03E0) ||| ((cy + 1) <<< 5)

/-- The nametable byte's address (R1041). -/
def ntAddr (v : BitVec 15) : BitVec 14 := 0x2000 ||| (v.setWidth 14 &&& 0x0FFF)

/-- The attribute byte's address (R1041). -/
def atAddr (v : BitVec 15) : BitVec 14 :=
  0x23C0 ||| (v.setWidth 14 &&& 0x0C00) ||| ((v >>> 4).setWidth 14 &&& 0x38)
    ||| ((v >>> 2).setWidth 14 &&& 0x07)

/-- `BgPat(k)` (R1041). -/
def bgPat (p : Ppu) (k : BitVec 14) : BitVec 14 :=
  (if p.bgTable then 0x1000 else 0) ||| (p.ntLatch.setWidth 14 <<< 4) ||| k
    ||| ((p.v >>> 12).setWidth 14 &&& 7)

/-- The fetch of phase `ph` of the 8-dot cadence (R1041). -/
def bgFetch (ph : Nat) (s : State) : State :=
  match ph with
  | 0 =>
    let (b, s) := ppuRead (ntAddr s.ppu.v) s
    { s with ppu := { s.ppu with ntLatch := b } }
  | 2 =>
    let (b, s) := ppuRead (atAddr s.ppu.v) s
    let sh := (((s.ppu.v >>> 4) &&& 4) ||| (s.ppu.v &&& 2)).toNat
    { s with ppu := { s.ppu with atLatch := (b >>> sh).setWidth 2 } }
  | 4 =>
    let (b, s) := ppuRead (bgPat s.ppu 0) s
    { s with ppu := { s.ppu with ptLoLatch := b } }
  | 6 =>
    let (b, s) := ppuRead (bgPat s.ppu 8) s
    { s with ppu := { s.ppu with ptHiLatch := b } }
  | 7 => { s with ppu := { s.ppu with v := incCoarseX s.ppu.v } }
  | _ => s

/-- The shift and the reload at the head of `BgStep` (R1041, R1042). -/
def bgShiftReload (d : Nat) (p : Ppu) : Ppu :=
  let p := if (2 ≤ d ∧ d ≤ 257) ∨ (322 ≤ d ∧ d ≤ 337) then shiftBg p else p
  if (9 ≤ d ∧ d ≤ 257 ∧ d % 8 = 1) ∨ d = 329 ∨ d = 337 then reloadBg p else p

/-- The scroll updates at the tail of `BgStep` (R1041, R1043). -/
def bgScroll (l d : Nat) (p : Ppu) : Ppu :=
  let p := if d = 256 then { p with v := incY p.v } else p
  let p := if d = 257 then { p with v := (cleared p.v 0x041F) ||| (p.t &&& 0x041F) } else p
  if l = 261 ∧ 280 ≤ d ∧ d ≤ 304 then { p with v := (cleared p.v 0x7BE0) ||| (p.t &&& 0x7BE0) } else p

/-- `BgStep(l, d)` (R1041). -/
def bgStep (l d : Nat) (s : State) : State :=
  let s := { s with ppu := bgShiftReload d s.ppu }
  let s := if (1 ≤ d ∧ d ≤ 256) ∨ (321 ≤ d ∧ d ≤ 336) then bgFetch ((d - 1) % 8) s else s
  let s := if d = 337 ∨ d = 339 then (ppuRead (ntAddr s.ppu.v) s).2 else s
  { s with ppu := bgScroll l d s.ppu }

/-! ## Sprites -/

/-- The sprite height (R1011, R1060). -/
def Ppu.sprHeight (p : Ppu) : Nat := if p.sprSize16 then 16 else 8

/-- The OAM record of sprite `i`, evaluated on a line `row` rows below its Y (R1060). -/
def evalEntry (oam : Mem) (i row : Nat) : EvalEntry :=
  { index := i, tile := oam.read (4 * i + 1), attr := oam.read (4 * i + 2), x := oam.read (4 * i + 3)
    row := row }

/-- The scan of `SpriteEval` over the sprites in a list, in order (R1060): the entries selected and
whether a ninth was in range, at which the scan stops. -/
def spriteScan (oam : Mem) (h l : Nat) : List Nat → List EvalEntry → List EvalEntry × Bool
  | [], acc => (acc, false)
  | i :: rest, acc =>
    let y := (oam.read (4 * i)).toNat
    if y ≤ l ∧ l < y + h then
      if acc.length < 8 then spriteScan oam h l rest (acc ++ [evalEntry oam i (l - y)])
      else (acc, true)
    else spriteScan oam h l rest acc

/-- `SpriteEval(l)` (R1060). -/
def spriteEval (l : Nat) (p : Ppu) : Ppu :=
  if p.rendering = false then { p with eval := [] }
  else
    let (found, ninth) := spriteScan p.oam p.sprHeight l (List.range 64) []
    { p with eval := found, overflow := p.overflow || ninth }

/-- `Reverse8` (R1063). -/
def reverse8 (b : Byte) : Byte :=
  flagByte (b.getLsbD 0) 7 ||| flagByte (b.getLsbD 1) 6 ||| flagByte (b.getLsbD 2) 5
    ||| flagByte (b.getLsbD 3) 4 ||| flagByte (b.getLsbD 4) 3 ||| flagByte (b.getLsbD 5) 2
    ||| flagByte (b.getLsbD 6) 1 ||| flagByte (b.getLsbD 7) 0

/-- The pattern address of tile `tile`, row `row`, plane `k`, flipped vertically or not (R1062); a row
outside 0-7 of an 8x8 sprite is computed modulo 2^14 (log entry 18). -/
def sprPatAddr (p : Ppu) (tile : Byte) (row : Nat) (vflip : Bool) (k : BitVec 14) : BitVec 14 :=
  if p.sprSize16 = false then
    let r : BitVec 14 := if vflip then 7 - BitVec.ofNat 14 row else BitVec.ofNat 14 row
    (if p.sprTable then 0x1000 else 0) ||| (tile.setWidth 14 <<< 4) ||| k ||| r
  else
    let r : BitVec 14 := if vflip then 15 - BitVec.ofNat 14 row else BitVec.ofNat 14 row
    let t : Byte := (tile &&& 0xFE) + (if 8 ≤ r then 1 else 0)
    (if tile.getLsbD 0 then 0x1000 else 0) ||| (t.setWidth 14 <<< 4) ||| k ||| (r &&& 7)

/-- `SprPat(e, k)`, and `Dummy(k)` for an empty slot: tile $FF, row 0, no flip (R1062). -/
def sprPat (p : Ppu) (e : Option EvalEntry) (k : BitVec 14) : BitVec 14 :=
  match e with
  | some e => sprPatAddr p e.tile e.row (e.attr.getLsbD 7) k
  | none => if p.sprSize16 then 0x1FE0 ||| k else sprPatAddr p 0xFF 0 false k

/-- A fetched sprite byte, reversed for a horizontally flipped sprite (R1063). -/
def flipped (e : EvalEntry) (b : Byte) : Byte := if e.attr.getLsbD 6 then reverse8 b else b

/-- Change render slot `i`. -/
def updSlot (i : Nat) (f : RenderSlot → RenderSlot) (p : Ppu) : Ppu :=
  { p with render := p.render.modify i f }

/-- The work of slot `i` at its dot `q` (R1063). -/
def spriteSlotStep (i q : Nat) (s : State) : State :=
  let e := s.ppu.eval[i]?
  match q with
  | 0 =>
    let slot : RenderSlot := match e with
      | some e => { valid := true, index := e.index, attr := e.attr, x := e.x, patLo := 0, patHi := 0 }
      | none => RenderSlot.invalid
    { s with ppu := updSlot i (fun _ => slot) s.ppu }
  | 4 =>
    let (b, s) := ppuRead (sprPat s.ppu e 0) s
    match e with
    | some e => { s with ppu := updSlot i (fun r => { r with patLo := flipped e b }) s.ppu }
    | none => s
  | 6 =>
    let (b, s) := ppuRead (sprPat s.ppu e 8) s
    match e with
    | some e => { s with ppu := updSlot i (fun r => { r with patHi := flipped e b }) s.ppu }
    | none => s
  | _ => s

/-- `SpriteFetchStep(l, d)` (R1063), which also clears OAMADDR (R1061). -/
def spriteFetchStep (d : Nat) (s : State) : State :=
  if d < 257 ∨ 320 < d then s
  else spriteSlotStep ((d - 257) / 8) ((d - 257) % 8) { s with ppu := { s.ppu with oamaddr := 0 } }

/-! ## Pixel composition -/

/-- A two-bit value from its high and low bits. -/
def twoBits (hi lo : Bool) : Nat := 2 * hi.toNat + lo.toNat

/-- The first slot with an opaque pixel at column `x`, with that pixel's value (R1070). -/
def firstSprite (x : Nat) : List RenderSlot → Option (RenderSlot × Nat)
  | [] => none
  | r :: rest =>
    if r.valid = true ∧ r.x.toNat ≤ x ∧ x < r.x.toNat + 8 then
      let b := 7 - (x - r.x.toNat)
      let c := twoBits (r.patHi.getLsbD b) (r.patLo.getLsbD b)
      if c ≠ 0 then some (r, c) else firstSprite x rest
    else firstSprite x rest

/-- The background's pixel value and palette at column `x` (R1070). -/
def bgPixel (p : Ppu) (x : Nat) : Nat × Nat :=
  if p.showBg = true ∧ (8 ≤ x ∨ p.bgLeft = true) then
    let bit := 15 - p.x.toNat
    (twoBits (p.bgHi.getLsbD bit) (p.bgLo.getLsbD bit), twoBits (p.atHi.getLsbD bit) (p.atLo.getLsbD bit))
  else (0, 0)

/-- The sprite pixel at column `x` (R1070). -/
def sprPixel (p : Ppu) (x : Nat) : Option (RenderSlot × Nat) :=
  if p.showSpr = true ∧ (8 ≤ x ∨ p.sprLeft = true) then firstSprite x (p.render.take 8) else none

/-- The colour of pixel value `c` of palette `k` (R1070). -/
def paletteColour (p : Ppu) (k c : Nat) : BitVec 6 :=
  palRead p.pal (palIndex (0x3F00 + BitVec.ofNat 14 (k * 4 + c)))

/-- The colour index a rendered pixel composes to, before greyscale (R1070). -/
def composed (p : Ppu) (bg : Nat × Nat) (spr : Option (RenderSlot × Nat)) : BitVec 6 :=
  match spr with
  | none => if bg.1 = 0 then palRead p.pal 0 else paletteColour p bg.2 bg.1
  | some (r, c) =>
    if bg.1 = 0 ∨ r.attr.getLsbD 5 = false then paletteColour p (4 + r.attr.toNat % 4) c
    else paletteColour p bg.2 bg.1

/-- The sprite-0 hit condition at column `x` (R1072). -/
def spriteZeroHit (bg : Nat × Nat) (spr : Option (RenderSlot × Nat)) (x : Nat) : Bool :=
  match spr with
  | none => false
  | some (r, _) => decide (bg.1 ≠ 0) && decide (r.index = 0) && decide (x ≠ 255)

/-- `OutputPixel(l, x)` (R1070, R1071). -/
def outputPixel (l x : Nat) (p : Ppu) : Ppu :=
  if p.rendering = false then
    { p with fb := p.fb.set l x ⟨greyed p (palRead p.pal 0), p.emphasis⟩ }
  else
    let bg := bgPixel p x
    let spr := sprPixel p x
    { p with
      s0hit := p.s0hit || spriteZeroHit bg spr x
      fb := p.fb.set l x ⟨greyed p (composed p bg spr), p.emphasis⟩ }

/-! ## The dot procedure -/

/-- ODD_FRAME_SKIP (R8, R1002, D26). -/
def oddFrameSkip : Bool := true

/-- `FrameComplete()` (R1003, R1281): the picture and the audio buffer go to the frame sink. -/
def frameComplete (s : State) : State :=
  { s with
    ppu := { s.ppu with frame := s.ppu.frame + 1 }
    frames := s.frames + 1
    host := { s.host with sink := some ⟨s.ppu.fb, s.apu.mix.audio⟩ }
    apu := { s.apu with mix := { s.apu.mix with audio := [] } } }

/-- `Advance()` (R1045, R1002). -/
def advance (s : State) : State :=
  let p := s.ppu
  let dot := if p.line = 261 ∧ p.dot = 339 ∧ p.frame % 2 = 1 ∧ p.rendering = true ∧ oddFrameSkip = true
    then 340 else p.dot
  if dot + 1 = 341 then
    if p.line + 1 = 262 then frameComplete { s with ppu := { p with dot := 0, line := 0 } }
    else { s with ppu := { p with dot := 0, line := p.line + 1 } }
  else { s with ppu := { p with dot := dot + 1 } }

/-- The flag work at the head of the dot procedure (R1040, R1050) and the sprite evaluation of dot 0
(R1060). -/
def dotHead (l d : Nat) (p : Ppu) : Ppu :=
  let p := if l = 241 ∧ d = 1 then
    { p with vblank := p.vblank || !p.suppressVbl, suppressVbl := false } else p
  let p := if l = 261 ∧ d = 1 then { p with vblank := false, s0hit := false, overflow := false } else p
  let p := if l = 261 ∧ d = 0 then { p with eval := [] } else p
  if l ≤ 239 ∧ d = 0 then spriteEval l p else p

/-- `ppu_dot()` (R1040). No rule lets a dot fault: it only reads the PPU bus. -/
def ppuDot (s : State) : State :=
  let l := s.ppu.line
  let d := s.ppu.dot
  let s := { s with ppu := dotHead l d s.ppu }
  let s := if s.ppu.rendering = true ∧ (l ≤ 239 ∨ l = 261) then spriteFetchStep d (bgStep l d s) else s
  let s := if l ≤ 239 ∧ 1 ≤ d ∧ d ≤ 256 then { s with ppu := outputPixel l (d - 1) s.ppu } else s
  advance s

/-! ## The frame sink's picture (R1080) -/

/-- The RGB triple of column `x`, line `l`. -/
def FrameOut.rgb (f : FrameOut) (l x : Nat) : Rgb :=
  Config.systemPalette (f.picture.get l x).colour (f.picture.get l x).emphasis

/-- The 256 x 240 picture, 3 bytes per pixel, row-major from the top-left (R1080). -/
def FrameOut.rgbBytes (f : FrameOut) : List Byte :=
  (List.range 240).flatMap fun l => (List.range 256).flatMap fun x =>
    [(f.rgb l x).r, (f.rgb l x).g, (f.rgb l x).b]

end Sys2Proof.Machine
end

