-- ==== Sys2Proof/Machine/Bus.lean ====
section
/-! DEFINITION. Machine/Bus.lean: the CPU-bus router (R201, R210, R211), the open-bus latches (R212), the
controller ports (R1510, R1511) and OAM DMA (R250). -/

namespace Sys2Proof.Machine

/-! ## Controller ports -/

/-- `shift_n <- Buttons(n)` and `count_n <- 0` for port 1 (R1510). -/
def loadPort1 (buttons : Byte) (b : Bus) : Bus := { b with shift1 := buttons, count1 := 0 }

/-- `shift_n <- Buttons(n)` and `count_n <- 0` for port 2 (R1510). -/
def loadPort2 (buttons : Byte) (b : Bus) : Bus := { b with shift2 := buttons, count2 := 0 }

/-- `ControllerWrite(d)` (R1510). -/
def controllerWrite (d : Byte) (s : State) : State :=
  let b := { s.bus with strobe := d.getLsbD 0 }
  { s with bus :=
      if b.strobe then loadPort2 s.host.buttons2 (loadPort1 s.host.buttons1 b) else b }

/-- The byte a controller read returns for bit 0 equal to `bit` (R1511). -/
def controllerByte (bit : Bool) : Byte := 0x40 ||| flagByte bit 0

/-- `ControllerRead(1)` (R1511). -/
def controllerRead1 (s : State) : Byte × State :=
  let b := if s.bus.strobe then loadPort1 s.host.buttons1 s.bus else s.bus
  if 8 ≤ b.count1 then (controllerByte true, { s with bus := b })
  else
    (controllerByte (b.shift1.getLsbD b.count1),
      { s with bus := { b with count1 := if b.strobe then b.count1 else b.count1 + 1 } })

/-- `ControllerRead(2)` (R1511). -/
def controllerRead2 (s : State) : Byte × State :=
  let b := if s.bus.strobe then loadPort2 s.host.buttons2 s.bus else s.bus
  if 8 ≤ b.count2 then (controllerByte true, { s with bus := b })
  else
    (controllerByte (b.shift2.getLsbD b.count2),
      { s with bus := { b with count2 := if b.strobe then b.count2 else b.count2 + 1 } })

/-! ## Reads -/

/-- `ApuStatusRead()`, with the APU latch taking the byte (R1230, R210, R212). -/
def apuStatusRead (s : State) : Byte × State :=
  let v := apuStatusByte s.bus.apuLatch s.apu
  (v, { s with apu := ackFrameIrq s.apu, bus := { s.bus with apuLatch := v } })

/-- `UNMAPPED_READ(a)`: a fresh draw (R213, log entry 5). -/
def unmappedRead (a : Word) (s : State) : Byte × State :=
  (Config.unmappedRead s.draws a, { s with draws := s.draws + 1 })

/-- `MemRead(a, 1)` (R210). A read of $4020-$5FFF, which no in-scope mapper maps, is unmapped (R201,
R213). -/
def memRead (a : Word) (s : State) : Byte × State :=
  if a ≤ 0x1FFF then (s.bus.ram.read (a.toNat % 2048), s)
  else if a ≤ 0x3FFF then ppuRegRead (a.toNat % 8) s
  else if a = 0x4014 then (s.bus.ppuLatch, s)
  else if a = 0x4015 then apuStatusRead s
  else if a = 0x4016 then controllerRead1 s
  else if a = 0x4017 then controllerRead2 s
  else if a ≤ 0x4013 then (s.bus.apuLatch, s)
  else if a ≤ 0x5FFF then unmappedRead a s
  else (s.cart.cpuRead a.toNat, s)

/-- `Read16(a)`: the low byte first, the high byte from `(a + 1) & $FFFF` (R11, R220, R221). -/
def read16 (a : Word) (s : State) : Word × State :=
  let (lo, s) := memRead a s
  let (hi, s) := memRead (a + 1) s
  (word16 lo hi, s)

/-! ## OAM DMA -/

/-- One byte of `OamDma(d)` (R250). -/
def oamDmaByte (a : Word) (s : State) : State :=
  let (b, s) := memRead a s
  { s with ppu := writeOamData b s.ppu }

/-- The last `n` bytes of `OamDma(d)` (R250): i = 256 - n to 255. -/
def oamDmaFrom (d : Byte) : Nat → State → State
  | 0, s => s
  | n + 1, s => oamDmaFrom d n (oamDmaByte (word16 (BitVec.ofNat 8 (255 - n)) d) s)

/-- `OamDma(d)` (R250). -/
def oamDma (d : Byte) (s : State) : State := oamDmaFrom d 256 s

/-! ## Writes -/

/-- `ppu_latch <- d` (R212). -/
def setPpuLatch (d : Byte) (s : State) : State := { s with bus := { s.bus with ppuLatch := d } }

/-- `apu_latch <- d` (R212). -/
def setApuLatch (d : Byte) (s : State) : State := { s with bus := { s.bus with apuLatch := d } }

/-- A write of console RAM (R211). -/
def ramWrite (i : Nat) (d : Byte) (s : State) : State :=
  { s with bus := { s.bus with ram := s.bus.ram.write i d } }

/-- A write to cartridge space (R211, R1402). -/
def cartWrite (a : Word) (d : Byte) (s : State) : Res State :=
  match s.cart.cpuWrite a.toNat d with
  | .ok c => .ok { s with cart := c }
  | .error k => .error (raise k s)

/-- `MemWrite(a, 1, d)` (R211). A write to $4018-$5FFF has no effect (R201, R213). -/
def memWrite (a : Word) (d : Byte) (s : State) : Res State :=
  if a ≤ 0x1FFF then .ok (ramWrite (a.toNat % 2048) d s)
  else if a ≤ 0x3FFF then ppuRegWrite (a.toNat % 8) d (setPpuLatch d s)
  else if a = 0x4014 then .ok (oamDma d (setPpuLatch d s))
  else if a = 0x4016 then .ok (controllerWrite d s)
  else if a ≤ 0x4017 then
    .ok { setApuLatch d s with apu := apuRegWrite s.t (a.toNat - 0x4000) d s.apu }
  else if a ≤ 0x5FFF then .ok s
  else cartWrite a d s

end Sys2Proof.Machine
end

