-- ==== Sys2Proof/Machine/ApuStep.lean ====
section
/-! DEFINITION. Machine/ApuStep.lean: the APU's step (R1200), whose DMC reader reads the CPU bus and
stalls the CPU (R1276, R251, R450). -/

namespace Sys2Proof.Machine

/-- `DmcReader()` (R1276). -/
def dmcReader (s : State) : State :=
  if s.apu.dmc.wantsByte then
    let (b, s) := memRead s.apu.dmc.curAddr s
    { s with
      apu := { s.apu with dmc := dmcTake b s.apu.dmc }
      cpu := { s.cpu with dmcStall := s.cpu.dmcStall + dmcStallCycles } }
  else s

/-- The timers of `apu_step()`, in its order, at time `t` (R1200). -/
def apuTimers (t : Nat) (u : Apu) : Apu :=
  let u := frameSeqStep u
  let u := if t % 2 = 0 then { u with p1 := pulseTimer u.p1, p2 := pulseTimer u.p2 } else u
  { u with tri := triangleTimer u.tri, noise := noiseTimer u.noise, dmc := dmcTimer u.dmc }

/-- `apu_step()` (R1200). -/
def apuStep (s : State) : State :=
  let s := dmcReader { s with apu := apuTimers s.t s.apu }
  { s with apu := mixerSample s.host.samplePeriod s.apu }

end Sys2Proof.Machine
end

