-- ==== Sys2Proof/Machine/Operands.lean ====
section
/-! DEFINITION. Machine/Operands.lean: effective-address resolution (R410 to R419) and the operand
primitives `Load`, `Store` and `RMW` (R405). -/

namespace Sys2Proof.Machine

/-! ## Resolution -/

/-- What `Resolve` returns: the operand and whether indexing crossed a page; and the state after the
pointer reads (R401). -/
structure Resolved where
  operand : Operand
  crossed : Bool
  after   : State

/-- `(base & $FF00) != (ea & $FF00)` (R415, R422). -/
def pageDiffers (base ea : Word) : Bool := highByte base != highByte ea

/-- An indexed address, with its crossing (R415, R418). -/
def indexed (base : Word) (index : Byte) (s : State) : Resolved :=
  let ea := base + zext16 index
  ⟨.address ea, pageDiffers base ea, s⟩

/-- An address with no crossing. -/
def direct (ea : Word) (s : State) : Resolved := ⟨.address ea, false, s⟩

/-- A 16-bit pointer read whose high byte comes from the same page as its low byte (R416, R417, R418):
`(ptr & $FF00) | ((ptr + 1) & $00FF)`. -/
def readPointer (p : Word) (s : State) : Word × State :=
  let (lo, s) := memRead p s
  let (hi, s) := memRead (word16 (lowByte p + 1) (highByte p)) s
  (word16 lo hi, s)

/-- `Resolve(mode, pc0, b1, b2)` (R410 to R419), the operand bytes being in the form. -/
def resolve (f : Form) (pc0 : Word) (s : State) : Resolved :=
  match f with
  | .imp => ⟨.implicit, false, s⟩
  | .acc => ⟨.accumulator, false, s⟩
  | .imm b => ⟨.immediate b, false, s⟩
  | .zp z => direct (zext16 z) s
  | .zpx z => direct (zext16 (z + s.cpu.x)) s
  | .zpy z => direct (zext16 (z + s.cpu.y)) s
  | .abs a => direct a s
  | .abx a => indexed a s.cpu.x s
  | .aby a => indexed a s.cpu.y s
  | .ind a =>
    let (ea, s) := readPointer a s
    direct ea s
  | .izx z =>
    let (ea, s) := readPointer (zext16 (z + s.cpu.x)) s
    direct ea s
  | .izy z =>
    let (base, s) := readPointer (zext16 z) s
    indexed base s.cpu.y s
  | .rel d => ⟨.relative (pc0 + 2 + sext16 d), false, s⟩

/-! ## The operand primitives -/

/-- `Load()` (R405). -/
def load (o : Operand) (s : State) : Res (Byte × State) :=
  match o with
  | .immediate b => .ok (b, s)
  | .address ea => .ok (memRead ea s)
  | .accumulator => .ok (s.cpu.a, s)
  | .implicit => .error (raise .internalDecode s)
  | .relative _ => .error (raise .internalDecode s)

/-- `Store(v)` (R405). -/
def store (o : Operand) (v : Byte) (s : State) : Res State :=
  match o with
  | .address ea => memWrite ea v s
  | .implicit => .error (raise .internalDecode s)
  | .accumulator => .error (raise .internalDecode s)
  | .immediate _ => .error (raise .internalDecode s)
  | .relative _ => .error (raise .internalDecode s)

/-- Change the CPU alone. -/
def mapCpu (f : Cpu → Cpu) (s : State) : State := { s with cpu := f s.cpu }

/-- `RMW(f)` (R405): one read, `f` with its flags, one write, no dummy write (R224). -/
def rmw (f : Byte → Cpu → Byte × Cpu) (o : Operand) (s : State) : Res (Byte × State) :=
  match o with
  | .accumulator =>
    let (r, c) := f s.cpu.a s.cpu
    .ok (r, { s with cpu := { c with a := r } })
  | .address ea =>
    let (m, s) := memRead ea s
    let (r, c) := f m s.cpu
    match memWrite ea r { s with cpu := c } with
    | .ok s => .ok (r, s)
    | .error e => .error e
  | .implicit => .error (raise .internalDecode s)
  | .immediate _ => .error (raise .internalDecode s)
  | .relative _ => .error (raise .internalDecode s)

end Sys2Proof.Machine
end

