-- ==== Sys2Proof/Machine/Ops.lean ====
section
/-! DEFINITION. Machine/Ops.lean: the named operations the meanings are written over: the stack (R102),
taking an interrupt (R911, R706) and returning from one (R705, R915), the in-flight record an
instruction gets at its fetch (R401, R421 to R423), and how an effect is run and completed (R404). -/

namespace Sys2Proof.Machine

/-! ## The stack -/

/-- The console-RAM index of a stack address `$0100 | S` (R102, R201). -/
def stackIndex (sp : Byte) : Nat := 0x100 + sp.toNat

/-- `Push(v)` (R11, R102). The stack page is console RAM, which never faults (R530). -/
def push (v : Byte) (s : State) : State :=
  mapCpu (fun c => { c with s := c.s - 1 }) (ramWrite (stackIndex s.cpu.s) v s)

/-- The byte `Pull()` returns (R11, R102). -/
def pullByte (s : State) : Byte := s.bus.ram.read (stackIndex (s.cpu.s + 1))

/-- `Pull()` (R11, R102). -/
def pull (s : State) : Byte × State := (pullByte s, mapCpu (fun c => { c with s := c.s + 1 }) s)

/-- Push a 16-bit value, its high byte first (R220). -/
def pushWord (w : Word) (s : State) : State := push (lowByte w) (push (highByte w) s)

/-- Pull a 16-bit value, its low byte first (R704, R705). -/
def pullWord (s : State) : Word × State :=
  let (lo, s) := pull s
  let (hi, s) := pull s
  (word16 lo hi, s)

/-! ## Taking an interrupt, and returning from one -/

/-- The NMI vector (R202). -/
def nmiVector : Word := 0xFFFA
/-- The RESET vector (R202). -/
def resetVector : Word := 0xFFFC
/-- The IRQ/BRK vector (R202). -/
def irqVector : Word := 0xFFFE

/-- Taking BRK, NMI or IRQ (R706, R911, R914): push the return address and the image of P, set I, and
go to the address the vector holds. Gives the new PC. -/
def takeInterrupt (ret : Word) (image : Byte) (vec : Word) (s : State) : Word × State :=
  read16 vec (mapCpu (setI true) (push image (pushWord ret s)))

/-- Returning from any of them (R705, R915): P, then the PC, from the stack. Gives the new PC. -/
def returnFromInterrupt (s : State) : Word × State :=
  let (m, s) := pull s
  pullWord (mapCpu (fun c => { c with p := statusPulled m }) s)

/-- The vector of a BRK or IRQ: NMI's if it was hijacked (R706, R911, R912). -/
def irqVectorOf (hijacked : Bool) : Word := if hijacked then nmiVector else irqVector

/-! ## The in-flight record of an instruction -/

/-- `BranchCond(op, P)` (R709). -/
def branchCond (i : Instr) (c : Cpu) : Bool :=
  match i with
  | .bpl _ => !c.flagN
  | .bmi _ => c.flagN
  | .bvc _ => !c.flagV
  | .bvs _ => c.flagV
  | .bcc _ => !c.flagC
  | .bcs _ => c.flagC
  | .bne _ => !c.flagZ
  | .beq _ => c.flagZ
  | _ => false

/-- The instructions that write memory (R423); their accumulator forms have no address. -/
def writesMemory (i : Instr) : Bool :=
  match i with
  | .sta _ | .stx _ | .sty _ | .sax _ | .asl _ | .lsr _ | .rol _ | .ror _ | .inc _ | .dec _
  | .slo _ | .rla _ | .sre _ | .rra _ | .dcp _ | .isc _ => true
  | _ => false

/-- `PagePenalty(e, crossed)` (R421). -/
def pagePenalty (row : OpRow) (crossed : Bool) : Nat := if row.page && crossed then 1 else 0

/-- `BranchPenalty(e, taken, pc0, operand)` (R422). -/
def branchPenalty (taken : Bool) (pc0 : Word) (o : Operand) : Nat :=
  match o with
  | .relative target => if taken then (if pageDiffers (pc0 + 2) target then 2 else 1) else 0
  | _ => 0

/-- `DmaPenalty(e, operand, total0)` at time `t` (R423; DMA_PARITY of R8). -/
def dmaPenalty (t : Nat) (i : Instr) (o : Operand) (total0 : Nat) : Nat :=
  if writesMemory i = true ∧ o = .address 0x4014 then
    (if (t + total0 - 1) % 2 = 1 then 514 else 513)
  else 0

/-- The record of instruction `i` fetched at PC, once its bytes have been read (R401), with the state
after the pointer reads. -/
def newRecord (i : Instr) (s : State) : Inflight × State :=
  let pc0 := s.cpu.pc
  let r := resolve i.form pc0 s
  let taken := branchCond i s.cpu
  let total0 := i.row.base + pagePenalty i.row r.crossed + branchPenalty taken pc0 r.operand
  ({ kind := .op i, pc0 := pc0, operand := r.operand, taken := taken, hijacked := false
     total := total0 + dmaPenalty s.t i r.operand total0, elapsed := 0 }, r.after)

/-- Put a record in flight. -/
def setInflight (r : Inflight) (s : State) : State := mapCpu (fun c => { c with inflight := some r }) s

/-- The end of `fetch()` for instruction `i` (R401): its record is in flight. -/
def issue (i : Instr) (s : State) : State :=
  let (r, s) := newRecord i s
  setInflight r s

/-- The record a completion works on: the one in flight, or, when none is, the one `issue` would make
(log entry 10). -/
def recordOf (i : Instr) (s : State) : Inflight × State :=
  match s.cpu.inflight with
  | some r => (r, s)
  | none => newRecord i s

/-! ## Running and completing an effect (R404) -/

/-- The end of `complete()`: PC at `pc`, nothing in flight. -/
def finish (pc : Word) (s : State) : State :=
  mapCpu (fun c => { c with pc := pc, inflight := none }) s

/-- `(inflight.pc0 + inflight.len) & $FFFF`. -/
def nextPc (i : Instr) (r : Inflight) : Word := r.pc0 + BitVec.ofNat 16 i.length

/-- Complete an instruction that does not set PC: its effect, then PC advances by its length. -/
def runInstr (i : Instr) (effect : Inflight → State → Res State) (s : State) :
    Host.Outcome State Fault Refusal :=
  let (r, s) := recordOf i s
  match effect r s with
  | .ok s => .next (finish (nextPc i r) s)
  | .error f => .fault f

/-- Complete an instruction that sets PC: its effect gives the new PC. -/
def runJump (i : Instr) (effect : Inflight → State → Word × State) (s : State) :
    Host.Outcome State Fault Refusal :=
  let (r, s) := recordOf i s
  let (pc, s) := effect r s
  .next (finish pc s)

/-! ## The shapes of effects -/

/-- An effect on the CPU alone. -/
def cpuEffect (f : Cpu → Cpu) (_r : Inflight) (s : State) : Res State := .ok (mapCpu f s)

/-- `Load()`, then an effect of its value on the CPU. -/
def readEffect (f : Byte → Cpu → Cpu) (r : Inflight) (s : State) : Res State :=
  match load r.operand s with
  | .ok (v, s) => .ok (mapCpu (f v) s)
  | .error e => .error e

/-- `Store(v)` of a value the CPU gives. -/
def storeEffect (v : Cpu → Byte) (r : Inflight) (s : State) : Res State := store r.operand (v s.cpu) s

/-- `RMW(f)`, then an effect of its result on the CPU. -/
def rmwEffect (f : Byte → Cpu → Byte × Cpu) (g : Byte → Cpu → Cpu) (r : Inflight) (s : State) :
    Res State :=
  match rmw f r.operand s with
  | .ok (v, s) => .ok (mapCpu (g v) s)
  | .error e => .error e

/-- `Push(v)` of a value the CPU gives. -/
def pushEffect (v : Cpu → Byte) (_r : Inflight) (s : State) : Res State := .ok (push (v s.cpu) s)

/-- `Pull()`, then an effect of its value on the CPU. -/
def pullEffect (f : Byte → Cpu → Cpu) (_r : Inflight) (s : State) : Res State :=
  let (v, s) := pull s
  .ok (mapCpu (f v) s)

/-- `pc <- ea` (R701, R702); PC as it is for an operand that is no address, which neither JMP nor JSR
resolves to. -/
def targetOf (r : Inflight) : Word :=
  match r.operand with
  | .address ea => ea
  | .relative target => target
  | _ => r.pc0

/-- The effect of a branch (R709): to the target if taken, past the instruction if not. -/
def branchEffect (i : Instr) (r : Inflight) (s : State) : Word × State :=
  (if r.taken then targetOf r else nextPc i r, s)

end Sys2Proof.Machine
end

