-- ==== Sys2Proof/Machine/Arith.lean ====
section
/-! DEFINITION. Machine/Arith.lean: arithmetic, logic, compares, increments and shifts (42_arith_logic.md). -/

namespace Sys2Proof.Machine

/-! ## Add and subtract -/

/-- ADC: `AddC(Load())` (R610). -/
def execAdc (f : Form) (s : State) : Host.Outcome State Fault Refusal :=
  runInstr (.adc f) (readEffect fun v c => addC v c) s

/-- SBC: `SubC(Load())` (R611). -/
def execSbc (f : Form) (s : State) : Host.Outcome State Fault Refusal :=
  runInstr (.sbc f) (readEffect fun v c => subC v c) s

/-! ## Logic -/

/-- AND: `A <- A & Load(); setNZ(A)` (R612). -/
def execAnd (f : Form) (s : State) : Host.Outcome State Fault Refusal :=
  runInstr (.and f) (readEffect fun v c => setNZ (c.a &&& v) { c with a := c.a &&& v }) s

/-- ORA: `A <- A | Load(); setNZ(A)` (R613). -/
def execOra (f : Form) (s : State) : Host.Outcome State Fault Refusal :=
  runInstr (.ora f) (readEffect fun v c => setNZ (c.a ||| v) { c with a := c.a ||| v }) s

/-- EOR: `A <- A ^ Load(); setNZ(A)` (R614). -/
def execEor (f : Form) (s : State) : Host.Outcome State Fault Refusal :=
  runInstr (.eor f) (readEffect fun v c => setNZ (c.a ^^^ v) { c with a := c.a ^^^ v }) s

/-- BIT: `Z <- E[(A & m) == 0]; N <- m[7]; V <- m[6]` (R615). -/
def execBit (f : Form) (s : State) : Host.Outcome State Fault Refusal :=
  runInstr (.bit f) (readEffect fun v c =>
    setV (v.getLsbD 6) (setN (v.getLsbD 7) (setZ (c.a &&& v == 0) c))) s

/-! ## Compares -/

/-- CMP: `Compare(A, Load())` (R620). -/
def execCmp (f : Form) (s : State) : Host.Outcome State Fault Refusal :=
  runInstr (.cmp f) (readEffect fun v c => compare c.a v c) s

/-- CPX: `Compare(X, Load())` (R621). -/
def execCpx (f : Form) (s : State) : Host.Outcome State Fault Refusal :=
  runInstr (.cpx f) (readEffect fun v c => compare c.x v c) s

/-- CPY: `Compare(Y, Load())` (R622). -/
def execCpy (f : Form) (s : State) : Host.Outcome State Fault Refusal :=
  runInstr (.cpy f) (readEffect fun v c => compare c.y v c) s

/-! ## Increments and decrements -/

/-- INC: `r <- RMW(m -> (m + 1) & $FF); setNZ(r)` (R630). -/
def execInc (f : Form) (s : State) : Host.Outcome State Fault Refusal :=
  runInstr (.inc f) (rmwEffect plusOne fun r c => setNZ r c) s

/-- DEC: `r <- RMW(m -> (m - 1) & $FF); setNZ(r)` (R631). -/
def execDec (f : Form) (s : State) : Host.Outcome State Fault Refusal :=
  runInstr (.dec f) (rmwEffect minusOne fun r c => setNZ r c) s

/-- INX: `X <- (X + 1) & $FF; setNZ(X)` (R632). -/
def execInx (s : State) : Host.Outcome State Fault Refusal := runInstr .inx (cpuEffect fun c => setNZ (c.x + 1) { c with x := c.x + 1 }) s

/-- INY: `Y <- (Y + 1) & $FF; setNZ(Y)` (R633). -/
def execIny (s : State) : Host.Outcome State Fault Refusal := runInstr .iny (cpuEffect fun c => setNZ (c.y + 1) { c with y := c.y + 1 }) s

/-- DEX: `X <- (X - 1) & $FF; setNZ(X)` (R634). -/
def execDex (s : State) : Host.Outcome State Fault Refusal := runInstr .dex (cpuEffect fun c => setNZ (c.x - 1) { c with x := c.x - 1 }) s

/-- DEY: `Y <- (Y - 1) & $FF; setNZ(Y)` (R635). -/
def execDey (s : State) : Host.Outcome State Fault Refusal := runInstr .dey (cpuEffect fun c => setNZ (c.y - 1) { c with y := c.y - 1 }) s

/-! ## Shifts and rotates -/

/-- ASL: shift left, C from bit 7 (R640). -/
def execAsl (f : Form) (s : State) : Host.Outcome State Fault Refusal :=
  runInstr (.asl f) (rmwEffect shiftLeft fun r c => setNZ r c) s

/-- LSR: shift right, C from bit 0 (R641). -/
def execLsr (f : Form) (s : State) : Host.Outcome State Fault Refusal :=
  runInstr (.lsr f) (rmwEffect shiftRight fun r c => setNZ r c) s

/-- ROL: rotate left through C (R642). -/
def execRol (f : Form) (s : State) : Host.Outcome State Fault Refusal :=
  runInstr (.rol f) (rmwEffect rotateLeft fun r c => setNZ r c) s

/-- ROR: rotate right through C (R643). -/
def execRor (f : Form) (s : State) : Host.Outcome State Fault Refusal :=
  runInstr (.ror f) (rmwEffect rotateRight fun r c => setNZ r c) s

end Sys2Proof.Machine
end

