-- ==== Sys2Proof/Machine/Control.lean ====
section
/-! DEFINITION. Machine/Control.lean: control transfer, branches, flag instructions and NOP (43_control_flags.md). -/

namespace Sys2Proof.Machine

/-! ## Jumps and subroutines -/

/-- JMP: `pc <- ea` (R701, R702). -/
def execJmp (f : Form) (s : State) : Host.Outcome State Fault Refusal := runJump (.jmp f) (fun r s => (targetOf r, s)) s

/-- JSR: push the address of its last byte, `pc <- ea` (R703). -/
def execJsr (a : Word) (s : State) : Host.Outcome State Fault Refusal :=
  runJump (.jsr a) (fun r s => (targetOf r, pushWord (r.pc0 + 2) s)) s

/-- RTS: pull the PC and add 1 (R704). -/
def execRts (s : State) : Host.Outcome State Fault Refusal :=
  runJump .rts (fun _ s =>
    let (w, s) := pullWord s
    (w + 1, s)) s

/-- RTI: pull P and the PC (R705). -/
def execRti (s : State) : Host.Outcome State Fault Refusal := runJump .rti (fun _ s => returnFromInterrupt s) s

/-- BRK: take the software interrupt, past the signature byte (R706, R912). -/
def execBrk (s : State) : Host.Outcome State Fault Refusal :=
  runJump .brk (fun r s =>
    takeInterrupt (r.pc0 + 2) (statusPushed s.cpu.p) (irqVectorOf r.hijacked) s) s

/-! ## Branches -/

/-- BPL: branch if N = 0 (R709, R710). -/
def execBpl (d : Byte) (s : State) : Host.Outcome State Fault Refusal :=
  runJump (.bpl d) (branchEffect (.bpl d)) s

/-- BMI: branch if N = 1 (R709, R711). -/
def execBmi (d : Byte) (s : State) : Host.Outcome State Fault Refusal :=
  runJump (.bmi d) (branchEffect (.bmi d)) s

/-- BVC: branch if V = 0 (R709, R712). -/
def execBvc (d : Byte) (s : State) : Host.Outcome State Fault Refusal :=
  runJump (.bvc d) (branchEffect (.bvc d)) s

/-- BVS: branch if V = 1 (R709, R713). -/
def execBvs (d : Byte) (s : State) : Host.Outcome State Fault Refusal :=
  runJump (.bvs d) (branchEffect (.bvs d)) s

/-- BCC: branch if C = 0 (R709, R714). -/
def execBcc (d : Byte) (s : State) : Host.Outcome State Fault Refusal :=
  runJump (.bcc d) (branchEffect (.bcc d)) s

/-- BCS: branch if C = 1 (R709, R715). -/
def execBcs (d : Byte) (s : State) : Host.Outcome State Fault Refusal :=
  runJump (.bcs d) (branchEffect (.bcs d)) s

/-- BNE: branch if Z = 0 (R709, R716). -/
def execBne (d : Byte) (s : State) : Host.Outcome State Fault Refusal :=
  runJump (.bne d) (branchEffect (.bne d)) s

/-- BEQ: branch if Z = 1 (R709, R717). -/
def execBeq (d : Byte) (s : State) : Host.Outcome State Fault Refusal :=
  runJump (.beq d) (branchEffect (.beq d)) s

/-! ## Flags -/

/-- CLC: `C <- 0` (R720). -/
def execClc (s : State) : Host.Outcome State Fault Refusal := runInstr .clc (cpuEffect fun c => setC false c) s

/-- SEC: `C <- 1` (R721). -/
def execSec (s : State) : Host.Outcome State Fault Refusal := runInstr .sec (cpuEffect fun c => setC true c) s

/-- CLI: `I <- 0` (R722). -/
def execCli (s : State) : Host.Outcome State Fault Refusal := runInstr .cli (cpuEffect fun c => setI false c) s

/-- SEI: `I <- 1` (R723). -/
def execSei (s : State) : Host.Outcome State Fault Refusal := runInstr .sei (cpuEffect fun c => setI true c) s

/-- CLD: `D <- 0` (R724). -/
def execCld (s : State) : Host.Outcome State Fault Refusal := runInstr .cld (cpuEffect fun c => setD false c) s

/-- SED: `D <- 1` (R725). -/
def execSed (s : State) : Host.Outcome State Fault Refusal := runInstr .sed (cpuEffect fun c => setD true c) s

/-- CLV: `V <- 0` (R726). -/
def execClv (s : State) : Host.Outcome State Fault Refusal := runInstr .clv (cpuEffect fun c => setV false c) s

/-! ## NOP -/

/-- NOP: nothing (R730). -/
def execNop (s : State) : Host.Outcome State Fault Refusal := runInstr .nop (cpuEffect fun c => c) s

end Sys2Proof.Machine
end

