-- ==== Sys2Proof/Machine/Illegal.lean ====
section
/-! DEFINITION. Machine/Illegal.lean: the unofficial opcodes (44_illegal.md). -/

namespace Sys2Proof.Machine

/-! ## Set A: combined load and store -/

/-- LAX: `v <- Load(); A <- v; X <- v; setNZ(v)` (R810). -/
def execLax (f : Form) (s : State) : Host.Outcome State Fault Refusal :=
  runInstr (.lax f) (readEffect fun v c => setNZ v { c with a := v, x := v }) s

/-- SAX: `Store(A & X)` (R811). -/
def execSax (f : Form) (s : State) : Host.Outcome State Fault Refusal :=
  runInstr (.sax f) (storeEffect fun c => c.a &&& c.x) s

/-! ## Set A: combined RMW and arithmetic -/

/-- DCP: decrement memory, then `Compare(A, r)` (R812). -/
def execDcp (f : Form) (s : State) : Host.Outcome State Fault Refusal :=
  runInstr (.dcp f) (rmwEffect minusOne fun r c => compare c.a r c) s

/-- ISC: increment memory, then `SubC(r)` (R813). -/
def execIsc (f : Form) (s : State) : Host.Outcome State Fault Refusal :=
  runInstr (.isc f) (rmwEffect plusOne fun r c => subC r c) s

/-- SLO: shift memory left, then `A <- A | r; setNZ(A)` (R814). -/
def execSlo (f : Form) (s : State) : Host.Outcome State Fault Refusal :=
  runInstr (.slo f) (rmwEffect shiftLeft fun r c =>
    setNZ (c.a ||| r) { c with a := c.a ||| r }) s

/-- RLA: rotate memory left, then `A <- A & r; setNZ(A)` (R815). -/
def execRla (f : Form) (s : State) : Host.Outcome State Fault Refusal :=
  runInstr (.rla f) (rmwEffect rotateLeft fun r c =>
    setNZ (c.a &&& r) { c with a := c.a &&& r }) s

/-- SRE: shift memory right, then `A <- A ^ r; setNZ(A)` (R816). -/
def execSre (f : Form) (s : State) : Host.Outcome State Fault Refusal :=
  runInstr (.sre f) (rmwEffect shiftRight fun r c =>
    setNZ (c.a ^^^ r) { c with a := c.a ^^^ r }) s

/-- RRA: rotate memory right, then `AddC(r)` with the C of the rotate (R817). -/
def execRra (f : Form) (s : State) : Host.Outcome State Fault Refusal :=
  runInstr (.rra f) (rmwEffect rotateRight fun r c => addC r c) s

/-! ## Set A: NOPs and the SBC duplicate -/

/-- NOP: reads its address, if it has one, and nothing else (R820). -/
def nopEffect (r : Inflight) (s : State) : Res State :=
  match r.operand with
  | .address ea => .ok (memRead ea s).2
  | _ => .ok s

/-- NOP, the unofficial encodings (R820). -/
def execNopAlt (op : Byte) (f : Form) (s : State) : Host.Outcome State Fault Refusal := runInstr (.nopAlt op f) nopEffect s

/-- SBC $EB: `SubC(Load())` (R821). -/
def execSbcAlt (b : Byte) (s : State) : Host.Outcome State Fault Refusal :=
  runInstr (.sbcAlt b) (readEffect fun v c => subC v c) s

/-! ## Set B -/

/-- ANC: `A <- A & Load(); setNZ(A); C <- A[7]` (R830). -/
def execAnc (op : Byte) (b : Byte) (s : State) : Host.Outcome State Fault Refusal :=
  runInstr (.anc op b) (readEffect fun v c =>
    setC ((c.a &&& v).getLsbD 7) (setNZ (c.a &&& v) { c with a := c.a &&& v })) s

/-- ALR: `t <- A & Load(); C <- t[0]; A <- t >> 1; setNZ(A)` (R831). -/
def execAlr (b : Byte) (s : State) : Host.Outcome State Fault Refusal :=
  runInstr (.alr b) (readEffect fun v c =>
    setNZ ((c.a &&& v) >>> 1) { setC ((c.a &&& v).getLsbD 0) c with a := (c.a &&& v) >>> 1 }) s

/-- What ARR leaves of `t` (R832): `A <- (t >> 1) | (C << 7); setNZ(A); C <- A[6]; V <- A[6] ^ A[5]`. -/
def arrCpu (t : Byte) (c : Cpu) : Cpu :=
  let r := (t >>> 1) ||| flagByte c.flagC 7
  setV (r.getLsbD 6 != r.getLsbD 5) (setC (r.getLsbD 6) (setNZ r { c with a := r }))

/-- ARR: `t <- A & Load()`, rotated right with its own flags (R832). -/
def execArr (b : Byte) (s : State) : Host.Outcome State Fault Refusal :=
  runInstr (.arr b) (readEffect fun v c => arrCpu (c.a &&& v) c) s

/-- What SBX leaves (R833): `u <- A & X; C <- E[u >= m]; X <- (u - m) & $FF; setNZ(X)`. -/
def sbxCpu (m : Byte) (c : Cpu) : Cpu :=
  let u := c.a &&& c.x
  setNZ (u - m) { setC (decide (m ≤ u)) c with x := u - m }

/-- SBX: X <- (A & X) - immediate, with no borrow in (R833). -/
def execSbx (b : Byte) (s : State) : Host.Outcome State Fault Refusal :=
  runInstr (.sbx b) (readEffect fun v c => sbxCpu v c) s

/-- LAS: `v <- Load() & S; A <- v; X <- v; S <- v; setNZ(v)` (R834). -/
def execLas (a : Word) (s : State) : Host.Outcome State Fault Refusal :=
  runInstr (.las a) (readEffect fun v c =>
    setNZ (v &&& c.s) { c with a := v &&& c.s, x := v &&& c.s, s := v &&& c.s }) s

/-! ## Set U: refused opcodes -/

/-- XAA: refused (R840, R401). On hardware its constant varies between chips and with temperature. -/
def execXaa (b : Byte) (s : State) : Host.Outcome State Fault Refusal :=
  .refused (refuse (.unstableOpcode (Instr.opcode (.xaa b))) s)

/-- LXA: refused (R841, R401). On hardware its constant varies in the same way. -/
def execLxa (b : Byte) (s : State) : Host.Outcome State Fault Refusal :=
  .refused (refuse (.unstableOpcode (Instr.opcode (.lxa b))) s)

/-- SHA: refused (R842, R401). On hardware the stored value and the address are unstable. -/
def execSha (f : Form) (s : State) : Host.Outcome State Fault Refusal :=
  .refused (refuse (.unstableOpcode (Instr.opcode (.sha f))) s)

/-- SHX: refused (R843, R401). On hardware the stored value and the address are unstable. -/
def execShx (a : Word) (s : State) : Host.Outcome State Fault Refusal :=
  .refused (refuse (.unstableOpcode (Instr.opcode (.shx a))) s)

/-- SHY: refused (R844, R401). On hardware the stored value and the address are unstable. -/
def execShy (a : Word) (s : State) : Host.Outcome State Fault Refusal :=
  .refused (refuse (.unstableOpcode (Instr.opcode (.shy a))) s)

/-- TAS: refused (R845, R401). On hardware the stored value and the address are unstable. -/
def execTas (a : Word) (s : State) : Host.Outcome State Fault Refusal :=
  .refused (refuse (.unstableOpcode (Instr.opcode (.tas a))) s)

/-! ## JAM -/

/-- JAM: `halted <- true`, and PC stays at the opcode (R860). -/
def execJam (op : Byte) (s : State) : Host.Outcome State Fault Refusal :=
  runJump (.jam op) (fun r s => (r.pc0, mapCpu (fun c => { c with halted := true }) s)) s

end Sys2Proof.Machine
end

