-- ==== Sys2Proof/Machine/LoadStore.lean ====
section
/-! DEFINITION. Machine/LoadStore.lean: loads, stores, transfers and the stack instructions (41_load_store.md). -/

namespace Sys2Proof.Machine

/-! ## Loads -/

/-- LDA: `v <- Load(); A <- v; setNZ(v)` (R510). -/
def execLda (f : Form) (s : State) : Host.Outcome State Fault Refusal :=
  runInstr (.lda f) (readEffect fun v c => setNZ v { c with a := v }) s

/-- LDX: `v <- Load(); X <- v; setNZ(v)` (R511). -/
def execLdx (f : Form) (s : State) : Host.Outcome State Fault Refusal :=
  runInstr (.ldx f) (readEffect fun v c => setNZ v { c with x := v }) s

/-- LDY: `v <- Load(); Y <- v; setNZ(v)` (R512). -/
def execLdy (f : Form) (s : State) : Host.Outcome State Fault Refusal :=
  runInstr (.ldy f) (readEffect fun v c => setNZ v { c with y := v }) s

/-! ## Stores -/

/-- STA: `Store(A)` (R513). -/
def execSta (f : Form) (s : State) : Host.Outcome State Fault Refusal :=
  runInstr (.sta f) (storeEffect fun c => c.a) s

/-- STX: `Store(X)` (R514). -/
def execStx (f : Form) (s : State) : Host.Outcome State Fault Refusal :=
  runInstr (.stx f) (storeEffect fun c => c.x) s

/-- STY: `Store(Y)` (R515). -/
def execSty (f : Form) (s : State) : Host.Outcome State Fault Refusal :=
  runInstr (.sty f) (storeEffect fun c => c.y) s

/-! ## Register transfers -/

/-- TAX: `X <- A; setNZ(X)` (R520). -/
def execTax (s : State) : Host.Outcome State Fault Refusal := runInstr .tax (cpuEffect fun c => setNZ c.a { c with x := c.a }) s

/-- TAY: `Y <- A; setNZ(Y)` (R521). -/
def execTay (s : State) : Host.Outcome State Fault Refusal := runInstr .tay (cpuEffect fun c => setNZ c.a { c with y := c.a }) s

/-- TXA: `A <- X; setNZ(A)` (R522). -/
def execTxa (s : State) : Host.Outcome State Fault Refusal := runInstr .txa (cpuEffect fun c => setNZ c.x { c with a := c.x }) s

/-- TYA: `A <- Y; setNZ(A)` (R523). -/
def execTya (s : State) : Host.Outcome State Fault Refusal := runInstr .tya (cpuEffect fun c => setNZ c.y { c with a := c.y }) s

/-- TSX: `X <- S; setNZ(X)` (R524). -/
def execTsx (s : State) : Host.Outcome State Fault Refusal := runInstr .tsx (cpuEffect fun c => setNZ c.s { c with x := c.s }) s

/-- TXS: `S <- X`, no flag (R525). -/
def execTxs (s : State) : Host.Outcome State Fault Refusal := runInstr .txs (cpuEffect fun c => { c with s := c.x }) s

/-! ## Stack -/

/-- PHA: `Push(A)` (R530). -/
def execPha (s : State) : Host.Outcome State Fault Refusal := runInstr .pha (pushEffect fun c => c.a) s

/-- PHP: `Push(P | $30)` (R531). -/
def execPhp (s : State) : Host.Outcome State Fault Refusal :=
  runInstr .php (pushEffect fun c => statusPushed c.p) s

/-- PLA: `v <- Pull(); A <- v; setNZ(v)` (R532). -/
def execPla (s : State) : Host.Outcome State Fault Refusal :=
  runInstr .pla (pullEffect fun v c => setNZ v { c with a := v }) s

/-- PLP: `m <- Pull(); P <- (m & $CF) | $20` (R533). -/
def execPlp (s : State) : Host.Outcome State Fault Refusal :=
  runInstr .plp (pullEffect fun m c => { c with p := statusPulled m }) s

end Sys2Proof.Machine
end

