-- ==== Sys2Proof/Machine/Engine.lean ====
section
/-! DEFINITION. Machine/Engine.lean: the CPU engine: fetching (R401), interrupt polls (R440, R441),
the reset and interrupt sequences (R910 to R913, R1551) and the CPU's step (R400). -/

namespace Sys2Proof.Machine

/-! ## Fetch -/

/-- Start a sequence (R910). -/
def startSequence (q : SeqKind) (s : State) : State :=
  mapCpu (fun c => { c with
    inflight := some { kind := .seq q, pc0 := c.pc, operand := .implicit, taken := false,
                       hijacked := false, total := 7, elapsed := 0 }
    nmiPending := c.nmiPending && decide (q ≠ .nmi) }) s

/-- The sequence a recorded interrupt starts (R401, R442). -/
def Interrupt.sequence : Interrupt → SeqKind
  | .nmi => .nmi
  | .irq => .irq

/-- The operand bytes after the opcode, as many as the row has (R401), and the state after the reads. -/
def fetchOperands (row : OpRow) (pc0 : Word) (s : State) : Byte × Byte × State :=
  match row.length with
  | 2 =>
    let (b1, s) := memRead (pc0 + 1) s
    (b1, 0, s)
  | 3 =>
    let (b1, s) := memRead (pc0 + 1) s
    let (b2, s) := memRead (pc0 + 2) s
    (b1, b2, s)
  | _ => (0, 0, s)

/-- `fetch()` of an instruction (R401): a set U opcode is refused as soon as its byte is
read, in the state after that read. -/
def fetchInstr (s : State) : Host.Outcome State Fault Refusal :=
  let pc0 := s.cpu.pc
  let (op, s) := memRead pc0 s
  if (opRow op).cls = .unstable then .refused (refuse (.unstableOpcode op) s)
  else
    let (b1, b2, s) := fetchOperands (opRow op) pc0 s
    .next (issue (decodeInstr op b1 b2) s)

/-- `fetch()` (R401). -/
def fetch (s : State) : Host.Outcome State Fault Refusal :=
  match s.cpu.intReq with
  | some q => .next (startSequence q.sequence (mapCpu (fun c => { c with intReq := none }) s))
  | none => fetchInstr s

/-! ## Polls -/

/-- `IrqLine()` (R902). -/
def irqLine (s : State) : Bool :=
  s.apu.seq.frameIrq || s.apu.dmc.irqFlag || s.cart.mapper.irqPending

/-- `IForPoll()` (R440): RTI polls with the I it is about to pull. -/
def iForPoll (i : Instr) (s : State) : Bool :=
  match i with
  | .rti => (pullByte s).getLsbD 2
  | _ => s.cpu.flagI

/-- What a poll during instruction `i` records (R440, R904). -/
def pollResult (i : Instr) (s : State) : Option Interrupt :=
  if s.cpu.nmiPending then some .nmi
  else if irqLine s && !iForPoll i s then some .irq
  else none

/-- BRK and the IRQ sequence can be hijacked (R912). -/
def hijackable : InflightKind → Bool
  | .op .brk => true
  | .seq .irq => true
  | _ => false

/-- `HijackCheck()` (R912) and `int_req <- None` (R440). -/
def hijackPoll (r : Inflight) (s : State) : State :=
  let hit := hijackable r.kind && s.cpu.nmiPending
  mapCpu (fun c => { c with
    inflight := some { r with hijacked := r.hijacked || hit }
    nmiPending := c.nmiPending && !hit
    intReq := none }) s

/-- `poll()` (R440), for the record `r` in flight. -/
def poll (r : Inflight) (s : State) : State :=
  match r.kind with
  | .seq _ => hijackPoll r s
  | .op .brk => hijackPoll r s
  | .op i => mapCpu (fun c => { c with intReq := pollResult i s }) s

/-- The record is a branch (mode REL). -/
def isBranch : InflightKind → Bool
  | .op i => decide (i.form.mode = .rel)
  | .seq _ => false

/-- `PollPointAtEntry(inflight)` (R441). -/
def pollPoint (r : Inflight) : Bool :=
  if isBranch r.kind then decide (r.elapsed = 1) || (decide (r.elapsed = 3) && decide (r.total = 4))
  else decide (r.elapsed + 1 = r.total)

/-! ## Completion -/

/-- The effects of the sequences (R911, R1551). Gives the new PC. -/
def seqEffect (q : SeqKind) (r : Inflight) (s : State) : Word × State :=
  match q with
  | .reset => read16 resetVector s
  | .nmi => takeInterrupt s.cpu.pc (statusPushedBySequence s.cpu.p) nmiVector s
  | .irq => takeInterrupt s.cpu.pc (statusPushedBySequence s.cpu.p) (irqVectorOf r.hijacked) s

/-- `complete()` for a sequence (R404). -/
def completeSeq (q : SeqKind) (r : Inflight) (s : State) : State :=
  let (pc, s) := seqEffect q r s
  finish pc s

/-- `complete()` for what is in flight (R404). -/
def complete (r : Inflight) (s : State) : Host.Outcome State Fault Refusal :=
  match r.kind with
  | .op i => exec i s
  | .seq q => .next (completeSeq q r s)

/-! ## The CPU step -/

/-- The poll, if the record is at a poll point (R400, R441). -/
def pollAtEntry (r : Inflight) (s : State) : State := if pollPoint r then poll r s else s

/-- `inflight.elapsed <- inflight.elapsed + 1` (R400). -/
def countElapsed (s : State) : State :=
  mapCpu (fun c => { c with inflight := c.inflight.map fun r => { r with elapsed := r.elapsed + 1 } }) s

/-- One cycle of what is in flight (R400): the poll, the count and, when all cycles are done, the
completion. Nothing in flight is no case of R400; the state is then left as it is. -/
def advanceInflight (s : State) : Host.Outcome State Fault Refusal :=
  match s.cpu.inflight with
  | none => .next s
  | some r =>
    let s := countElapsed (pollAtEntry r s)
    match s.cpu.inflight with
    | none => .next s
    | some r => if r.elapsed = r.total then complete r s else .next s

/-- `cpu_step()` (R400, R450, R451). -/
def cpuStep (s : State) : Host.Outcome State Fault Refusal :=
  if s.cpu.halted then .next s
  else if 0 < s.cpu.dmcStall then .next (mapCpu (fun c => { c with dmcStall := c.dmcStall - 1 }) s)
  else
    match s.cpu.inflight with
    | some _ => advanceInflight s
    | none =>
      match fetch s with
      | .next s => advanceInflight s
      | .fault f => .fault f
      | .refused r => .refused r

end Sys2Proof.Machine
end

