-- ==== Sys2Proof/Machine/Orchestrator.lean ====
section
/-! DEFINITION. Machine/Orchestrator.lean: the frame orchestrator: the NMI edge detector (R903), one
orchestrator cycle (R1501), the runs bounded by cycles or frames (R1503), the run to the next
instruction boundary that `step` is (log entry 1), and placing a program's bytes (log entry 14). -/

namespace Sys2Proof.Machine

/-! ## One orchestrator cycle -/

/-- The edge detector, run after every dot (R903, R1501). -/
def nmiDetect (s : State) : State :=
  let out := s.ppu.nmiOut
  mapCpu (fun c => { c with
    nmiPending := c.nmiPending || (out && !c.nmiPrev)
    nmiPrev := out }) s

/-- One dot and the edge detector (R1501). -/
def dotAndDetect (s : State) : State := nmiDetect (ppuDot s)

/-- `T <- T + 1` (R1502). -/
def tickT (s : State) : State := { s with t := s.t + 1 }

/-- The part of the cycle after the CPU's step (R1501): three dots, the APU, T. -/
def afterCpu (s : State) : State := tickT (apuStep (dotAndDetect (dotAndDetect (dotAndDetect s))))

/-- `orchestrator_cycle()` (R1501). A stop ends the cycle at its point, with the state it has there; a
marked state takes no further step (R16, log entry 11). -/
def cycle (s : State) : Host.Outcome State Fault Refusal :=
  match s.fault, s.refused with
  | some k, _ => .fault (raise k s)
  | none, some r => .refused (refuse r s)
  | none, none =>
    match cpuStep s with
    | .next s => .next (afterCpu s)
    | .fault f => .fault f
    | .refused r => .refused r

/-- The state an outcome that started from `s` leaves the machine in: the next state, the fault state
or the state refused (R1501, R16). -/
def endState (s : State) (o : Host.Outcome State Fault Refusal) : State :=
  match o with
  | .next t => t
  | .fault f => f.state
  | .refused r => r.stateOr s

/-- `orchestrator_cycle()` as a change of the machine's state, its marks included (R1501). -/
def cycleState (s : State) : State := endState s (cycle s)

/-! ## Runs -/

/-- At most `n` cycles, one at least, up to the first state with nothing in flight (log entry 1). -/
def runToBoundary : Nat → State → Host.Outcome State Fault Refusal
  | 0, s => .next s
  | n + 1, s =>
    match cycle s with
    | .next s => if s.cpu.inflight.isNone then .next s else runToBoundary n s
    | .fault f => .fault f
    | .refused r => .refused r

/-- Cycles enough to reach the next boundary (log entry 1): what is left of the record in flight, the
stall, and 1024 for an instruction, its OAM DMA and the DMC stalls on the way. -/
def stepFuel (s : State) : Nat :=
  match s.cpu.inflight with
  | none => 1024
  | some r => r.total - r.elapsed + s.cpu.dmcStall + 1024

/-- `run_cycles(m)` (R1503). -/
def runCycles : Nat → State → State
  | 0, s => s
  | n + 1, s => runCycles n (cycleState s)

/-- The body of `run_frames`: at most `fuel` cycles, while `frames` is below `target` (R1503). -/
def runFramesFuel (target : Nat) : Nat → State → State
  | 0, s => s
  | fuel + 1, s =>
    if s.frames < target ∧ s.fault = none ∧ s.refused = none then
      runFramesFuel target fuel (cycleState s)
    else s

/-- `run_frames(n)` (R1503). A frame has at most 89342 dots (R1002), so 29781 cycles a frame are
enough. -/
def runFrames (n : Nat) (s : State) : State := runFramesFuel (s.frames + n) (n * 29781) s

/-- The host holds other buttons (R1510, R1520, log entry 8). -/
def State.withButtons (b1 b2 : Byte) (s : State) : State :=
  { s with host := { s.host with buttons1 := b1, buttons2 := b2 } }

/-! ## Placing a program's bytes (log entry 14) -/

/-- Put a byte where a fetch from `a` reads it: console RAM, PRG-RAM or the PRG image. The register
and unmapped ranges hold no byte. -/
def placeByte (a : Word) (d : Byte) (s : State) : State :=
  if a ≤ 0x1FFF then ramWrite (a.toNat % 2048) d s
  else if a ≤ 0x5FFF then s
  else if a ≤ 0x7FFF then
    { s with cart := { s.cart with prgRam := s.cart.prgRam.write (a.toNat - 0x6000) d } }
  else { s with cart := { s.cart with prg := s.cart.prg.write (s.cart.prgOffset a.toNat) d } }

/-- Put bytes from `a` on. -/
def placeBytes (a : Word) : List Byte → State → State
  | [], s => s
  | d :: rest, s => placeBytes (a + 1) rest (placeByte a d s)

/-- Make the CPU's next step a fetch of an instruction: nothing in flight, nothing recorded by a poll,
neither halted nor stalled. -/
def readyToFetch (s : State) : State :=
  mapCpu (fun c => { c with inflight := none, intReq := none, halted := false, dmcStall := 0 }) s

end Sys2Proof.Machine
end

