-- ==== Sys2Proof/Machine/Step.lean ====
section
/-! DEFINITION. Machine/Step.lean: one step of the machine, and placing one instruction. -/

namespace Sys2Proof.Machine

/-- One step: orchestrator cycles (R1501) up to the next instruction boundary. From a boundary it is one
instruction or interrupt sequence, with every dot and APU step of its cycles; while the CPU is
halted or stalled between instructions it is one cycle (log entry 1). -/
def step (s : State) : Host.Outcome State Fault Refusal := runToBoundary (stepFuel s) s

/-- `s` with the instruction whose bits are `w`, numbered as the opcode table numbers them, at PC, and the
CPU about to fetch it (log entry 14). -/
def State.withFetchWord (s : State) (nbits w : Nat) : State :=
  readyToFetch (placeBytes s.cpu.pc (tableBytes nbits w) s)

end Sys2Proof.Machine
end

