-- ==== Sys2Proof/Safety.lean ====
section
/-! DEFINITION. Safety.lean: what counts as a safe step, and the terms the statements are written in. -/

namespace Sys2Proof.Machine

/-! ## Safe steps -/

/-- The step ended in a next state (R15). -/
def Completes (o : Host.Outcome State Fault Refusal) : Prop := ∃ t, o = .next t

/-- A write of CPU address `a` reaches no read-only cartridge storage (R214): it is no write of
$8000-$FFFF on NROM, and no PPUDATA write with v in $0000-$1FFF and CHR-ROM. -/
def storable (a : Word) (s : State) : Bool :=
  if 0x8000 ≤ a.toNat then decide (s.cart.mapper ≠ .nrom)
  else if 0x2000 ≤ a.toNat ∧ a.toNat < 0x4000 ∧ a.toNat % 8 = 7 then
    decide (0x2000 ≤ s.ppu.v.toNat % 0x4000) || decide (s.cart.chrLen = 0)
  else true

/-! ## P, bit by bit (R110), in the order NV-BDIZC -/

/-- `p` with N and Z of the result `v`. -/
def withNZ (v p : Byte) : Byte := (p &&& 0x7D) ||| (v &&& 0x80) ||| (if v = 0 then 0x02 else 0x00)

/-- `p` with N and Z of `v`, and C equal to `c`. -/
def withNZC (v : Byte) (c : Bool) (p : Byte) : Byte := (withNZ v p &&& 0xFE) ||| (if c then 0x01 else 0x00)

/-- `p` with N and Z of `v`, V equal to `o` and C equal to `c`. -/
def withNVZC (v : Byte) (o c : Bool) (p : Byte) : Byte :=
  (withNZC v c p &&& 0xBF) ||| (if o then 0x40 else 0x00)

/-- The CPU after A + m + C, computed exactly: the sum modulo 256, C when it is over 255, V when the
signed sum is outside -128..127 (R600). -/
def afterAdd (m : Byte) (c : Cpu) : Cpu :=
  let s := c.a.toNat + m.toNat + c.flagC.toNat
  let e : Int := c.a.toInt + m.toInt + c.flagC.toNat
  { c with
    a := BitVec.ofNat 8 s
    p := withNVZC (BitVec.ofNat 8 s) (decide (e < -128) || decide (127 < e)) (decide (255 < s)) c.p }

/-- The CPU after A - m - (1 - C), computed exactly: C when there is no borrow, V when the signed
difference is outside -128..127 (R600). -/
def afterSub (m : Byte) (c : Cpu) : Cpu :=
  let d : Int := c.a.toNat - m.toNat - (1 - c.flagC.toNat)
  let e : Int := c.a.toInt - m.toInt - (1 - c.flagC.toNat)
  { c with
    a := BitVec.ofInt 8 d
    p := withNVZC (BitVec.ofInt 8 d) (decide (e < -128) || decide (127 < e)) (decide (0 ≤ d)) c.p }

/-- The CPU after comparing `r` with `m` (R600). -/
def afterCompare (r m : Byte) (c : Cpu) : Cpu :=
  { c with p := withNZC (r - m) (decide (m.toNat ≤ r.toNat)) c.p }

/-- The CPU with C made bit 0 of `b`. -/
def carryIn (b : Byte) (c : Cpu) : Cpu := { c with p := (c.p &&& 0xFE) ||| (b &&& 1) }

/-- The CPU with N and Z of `v`. -/
def resultIn (v : Byte) (c : Cpu) : Cpu := { c with p := withNZ v c.p }

/-! ## A record for an instruction -/

/-- The operand is one the form resolves to (R410 to R419): the byte of an immediate, some address,
A, some branch target, or nothing. -/
def operandFits (f : Form) (o : Operand) : Bool :=
  match f, o with
  | .imp, .implicit => true
  | .acc, .accumulator => true
  | .imm b, .immediate b' => decide (b = b')
  | .rel _, .relative _ => true
  | .zp _, .address _ | .zpx _, .address _ | .zpy _, .address _ | .abs _, .address _
  | .abx _, .address _ | .aby _, .address _ | .ind _, .address _ | .izx _, .address _
  | .izy _, .address _ => true
  | _, _ => false

/-- What is in flight, if anything is, is a record of instruction `i`. -/
def recordFits (i : Instr) (s : State) : Bool :=
  match s.cpu.inflight with
  | none => true
  | some r => operandFits i.form r.operand

/-- The record instruction `i` completes with. -/
def recOf (i : Instr) (s : State) : Inflight := (recordOf i s).1

/-- The state its effect starts from: after the pointer reads, if the record is yet to be made. -/
def preOf (i : Instr) (s : State) : State := (recordOf i s).2

/-- PC past instruction `i` (R404). -/
def pastPc (i : Instr) (s : State) : Word := (recOf i s).pc0 + BitVec.ofNat 16 i.length

/-- The state after an instruction that leaves `t` and goes to `pc` (R404): nothing in flight. -/
def endsAt (pc : Word) (t : State) : State := { t with cpu := { t.cpu with pc := pc, inflight := none } }

/-- The instruction completes, having done to the state what `eff` says, and PC is past it. -/
def Does (i : Instr) (s : State) (eff : State → State) : Prop :=
  exec i s = .next (endsAt (pastPc i s) (eff (preOf i s)))

/-- The instruction reads a value as `Load()` does (R405), completes having done to the CPU what `eff`
says of the value, and PC is past it. -/
def ReadsThen (i : Instr) (s : State) (eff : Byte → Cpu → Cpu) : Prop :=
  ∃ v t, load (recOf i s).operand (preOf i s) = .ok (v, t) ∧
    exec i s = .next (endsAt (pastPc i s) { t with cpu := eff v t.cpu })

/-- The instruction writes `v` at its address (R405), completes, and PC is past it. -/
def Stores (i : Instr) (s : State) (v : Byte) : Prop :=
  ∃ a t, (recOf i s).operand = .address a ∧ memWrite a v (preOf i s) = .ok t ∧
    exec i s = .next (endsAt (pastPc i s) t)

/-- The instruction reads the byte at its address, does to the CPU what `flags` says of it, writes
`f` of it and the CPU back, does to the CPU what `eff` says of the byte written, completes, and PC
is past it (R405). -/
def Modifies (i : Instr) (s : State) (f : Byte → Cpu → Byte) (flags eff : Byte → Cpu → Cpu) : Prop :=
  ∃ a m u t, (recOf i s).operand = .address a ∧ memRead a (preOf i s) = (m, u) ∧
    memWrite a (f m u.cpu) { u with cpu := flags m u.cpu } = .ok t ∧
    exec i s = .next (endsAt (pastPc i s) { t with cpu := eff (f m u.cpu) t.cpu })

/-- The instruction works on the CPU alone, completes, and PC is past it. -/
def Sets (i : Instr) (s : State) (eff : Cpu → Cpu) : Prop :=
  Does i s fun u => { u with cpu := eff u.cpu }

/-- The state in which a storing instruction's write lands: for a read-modify-write instruction, the
one after its read, which may have moved v. -/
def storeState (i : Instr) (s : State) : State :=
  match i, (recOf i s).operand with
  | .sta _, _ | .stx _, _ | .sty _, _ | .sax _, _ => preOf i s
  | _, .address a => (memRead a (preOf i s)).2
  | _, _ => preOf i s

/-- The instruction's write, if its record has an address, reaches no read-only storage (R214). -/
def writeAllowed (i : Instr) (s : State) : Bool :=
  match (recOf i s).operand with
  | .address a => storable a (storeState i s)
  | _ => true

/-- The byte a storing instruction writes, of the byte `m` it read and the CPU `c` then (R513 to R515,
R630 to R643, R811 to R817). -/
def writtenByte (i : Instr) (m : Byte) (c : Cpu) : Byte :=
  match i with
  | .sta _ => c.a
  | .stx _ => c.x
  | .sty _ => c.y
  | .sax _ => c.a &&& c.x
  | .inc _ | .isc _ => m + 1
  | .dec _ | .dcp _ => m - 1
  | .asl _ | .slo _ => m <<< 1
  | .lsr _ | .sre _ => m >>> 1
  | .rol _ | .rla _ => (m <<< 1) ||| (c.p &&& 1)
  | .ror _ | .rra _ => (m >>> 1) ||| ((c.p &&& 1) <<< 7)
  | _ => m

/-- The CPU when a storing instruction writes: a shift or rotate has put C (R405, R640 to R643). -/
def cpuAtWrite (i : Instr) (m : Byte) (c : Cpu) : Cpu :=
  match i with
  | .asl _ | .slo _ | .rol _ | .rla _ => carryIn (m >>> 7) c
  | .lsr _ | .sre _ | .ror _ | .rra _ => carryIn m c
  | _ => c

/-- The fault state of a write of `d` to `a` in state `s` that reaches read-only storage (R214, R1501).
A mapper write has done nothing yet; a PPUDATA write has put `d` in the latch (R212) and shown its
address to the A12 observer (R230), and v has not moved (R1027). -/
def romFaultState (a : Word) (d : Byte) (s : State) : State :=
  if 0x8000 ≤ a.toNat then { s with fault := some .romWrite }
  else
    let level := s.ppu.v.getLsbD 12
    { s with
      bus := { s.bus with ppuLatch := d }
      ppu := { s.ppu with lastA12 := level }
      cart := { s.cart with
        mapper := if level && !s.ppu.lastA12 then s.cart.mapper.a12Rise else s.cart.mapper }
      fault := some .romWrite }

/-! ## Memory, byte by byte -/

/-- Every byte of every memory reads as before. -/
def SameMemory (s t : State) : Prop :=
  (∀ n, t.bus.ram.read n = s.bus.ram.read n) ∧ (∀ n, t.bus.vram.read n = s.bus.vram.read n) ∧
  (∀ n, t.ppu.oam.read n = s.ppu.oam.read n) ∧ (∀ n, palRead t.ppu.pal n = palRead s.ppu.pal n) ∧
  (∀ n, t.cart.prgRam.read n = s.cart.prgRam.read n) ∧
  (∀ n, t.cart.chrRam.read n = s.cart.chrRam.read n) ∧
  (∀ n, t.cart.prg.read n = s.cart.prg.read n) ∧ (∀ n, t.cart.chr.read n = s.cart.chr.read n)

/-- `a` is the PPU register `r` or a mirror of it (R1014). -/
def isPpuReg (a : Word) (r : Nat) : Prop := 0x2000 ≤ a.toNat ∧ a.toNat < 0x4000 ∧ a.toNat % 8 = r

/-- The PPU-bus address a PPUDATA access uses (R1010, R1027). -/
def vramAddress (s : State) : BitVec 14 := s.ppu.v.setWidth 14

/-- A write of CPU address `a` stores to byte `n` of console RAM (R211). -/
def storesRam (a : Word) (n : Nat) : Prop := a.toNat < 0x2000 ∧ n = a.toNat % 2048

/-- A write of CPU address `a` stores to byte `n` of PRG-RAM (R1403). -/
def storesPrgRam (a : Word) (n : Nat) : Prop :=
  0x6000 ≤ a.toNat ∧ a.toNat < 0x8000 ∧ n = a.toNat - 0x6000

/-- A write of CPU address `a` in state `s` stores to byte `n` of OAM (R1024, R250). -/
def storesOam (a : Word) (s : State) (n : Nat) : Prop :=
  (isPpuReg a 4 ∧ n = s.ppu.oamaddr.toNat) ∨ a = 0x4014

/-- A write of CPU address `a` in state `s` stores to byte `n` of VRAM (R230, R1027). -/
def storesVram (a : Word) (s : State) (n : Nat) : Prop :=
  isPpuReg a 7 ∧ 0x2000 ≤ (vramAddress s).toNat ∧ (vramAddress s).toNat < 0x3F00 ∧
    n = ntIndex s.cart.mirroring (vramAddress s)

/-- A write of CPU address `a` in state `s` stores to palette entry `n` (R230, R1027). -/
def storesPal (a : Word) (s : State) (n : Nat) : Prop :=
  isPpuReg a 7 ∧ 0x3F00 ≤ (vramAddress s).toNat ∧ n = palIndex (vramAddress s)

/-- A write of CPU address `a` in state `s` stores to byte `n` of CHR-RAM (R230, R1406). -/
def storesChrRam (a : Word) (s : State) (n : Nat) : Prop :=
  isPpuReg a 7 ∧ (vramAddress s).toNat < 0x2000 ∧ s.cart.chrLen = 0 ∧
    n = s.cart.chrOffset (vramAddress s).toNat

/-- Every byte of every memory reads in `t` as in `s`, except those a write of CPU address `a` in
state `s` stores to. -/
def OnlyStoredAt (a : Word) (s t : State) : Prop :=
  (∀ n, ¬ storesRam a n → t.bus.ram.read n = s.bus.ram.read n) ∧
  (∀ n, ¬ storesPrgRam a n → t.cart.prgRam.read n = s.cart.prgRam.read n) ∧
  (∀ n, ¬ storesOam a s n → t.ppu.oam.read n = s.ppu.oam.read n) ∧
  (∀ n, ¬ storesVram a s n → t.bus.vram.read n = s.bus.vram.read n) ∧
  (∀ n, ¬ storesPal a s n → palRead t.ppu.pal n = palRead s.ppu.pal n) ∧
  (∀ n, ¬ storesChrRam a s n → t.cart.chrRam.read n = s.cart.chrRam.read n) ∧
  (∀ n, t.cart.prg.read n = s.cart.prg.read n) ∧ (∀ n, t.cart.chr.read n = s.cart.chr.read n)

/-- `t` is `s` after an interrupt was taken (R706, R911, R914): the return address and the image of P
pushed, S down by 3, I set, PC from the vector, nothing in flight, and nothing else changed. -/
def EntersInterrupt (ret : Word) (image : Byte) (vec : Word) (s t : State) : Prop :=
  t = { s with
    cpu := { s.cpu with
      s := s.cpu.s - 3, p := s.cpu.p ||| 0x04, inflight := none
      pc := word16 (s.cart.cpuRead vec.toNat) (s.cart.cpuRead (vec.toNat + 1)) }
    bus := { s.bus with ram := t.bus.ram } } ∧
  ∀ n, t.bus.ram.read n =
    if n = 0x100 + s.cpu.s.toNat then highByte ret
    else if n = 0x100 + (s.cpu.s - 1).toNat then lowByte ret
    else if n = 0x100 + (s.cpu.s - 2).toNat then image
    else s.bus.ram.read n

/-! ## Which instruction may write what (R101, R110) -/

/-- A form that works on A. -/
def onA (f : Form) : Bool := decide (f = .acc)

/-- The instructions that write A (R101). -/
def writesA : Instr → Bool
  | .lda _ | .pla | .txa | .tya | .adc _ | .sbc _ | .and _ | .ora _ | .eor _ | .lax _ | .slo _
  | .rla _ | .sre _ | .rra _ | .isc _ | .anc _ _ | .alr _ | .arr _ | .las _ | .sbcAlt _ => true
  | .asl f | .lsr f | .rol f | .ror f => onA f
  | _ => false

/-- The instructions that write X (R101). -/
def writesX : Instr → Bool
  | .ldx _ | .tax | .tsx | .inx | .dex | .lax _ | .sbx _ | .las _ => true
  | _ => false

/-- The instructions that write Y (R101). -/
def writesY : Instr → Bool
  | .ldy _ | .tay | .iny | .dey => true
  | _ => false

/-- The instructions that write S (R101). -/
def writesS : Instr → Bool
  | .txs | .las _ | .pha | .php | .pla | .plp | .jsr _ | .rts | .rti | .brk => true
  | _ => false

/-- The instructions that write N and Z: all that load, compute or compare, PLP and RTI (R110). -/
def writesNZ : Instr → Bool
  | .lda _ | .ldx _ | .ldy _ | .tax | .tay | .txa | .tya | .tsx | .pla | .plp | .adc _ | .sbc _
  | .and _ | .ora _ | .eor _ | .bit _ | .cmp _ | .cpx _ | .cpy _ | .inc _ | .dec _ | .inx | .iny
  | .dex | .dey | .asl _ | .lsr _ | .rol _ | .ror _ | .rti | .lax _ | .dcp _ | .isc _ | .slo _
  | .rla _ | .sre _ | .rra _ | .sbcAlt _ | .anc _ _ | .alr _ | .arr _ | .sbx _ | .las _ => true
  | _ => false

/-- The instructions that write V (R110). -/
def writesV : Instr → Bool
  | .adc _ | .sbc _ | .sbcAlt _ | .rra _ | .isc _ | .arr _ | .bit _ | .clv | .plp | .rti => true
  | _ => false

/-- The instructions that write D (R110). -/
def writesD : Instr → Bool
  | .cld | .sed | .plp | .rti => true
  | _ => false

/-- The instructions that write I (R110). -/
def writesI : Instr → Bool
  | .cli | .sei | .plp | .rti | .brk => true
  | _ => false

/-- The instructions that write C (R110). -/
def writesC : Instr → Bool
  | .adc _ | .sbc _ | .sbcAlt _ | .cmp _ | .cpx _ | .cpy _ | .asl _ | .lsr _ | .rol _ | .ror _
  | .clc | .sec | .plp | .rti | .slo _ | .rla _ | .sre _ | .rra _ | .isc _ | .dcp _ | .anc _ _
  | .alr _ | .arr _ | .sbx _ => true
  | _ => false

/-- The instructions that push (R101). -/
def pushes : Instr → Bool
  | .pha | .php | .jsr _ | .brk => true
  | _ => false

/-- The instructions with the page-cross column `yes` (R421). -/
def hasPageColumn (i : Instr) : Bool :=
  match i with
  | .adc f | .and f | .cmp f | .eor f | .lda f | .ora f | .sbc f =>
    [Mode.abx, .aby, .izy].contains f.mode
  | .ldx f => decide (f.mode = .aby)
  | .ldy f => decide (f.mode = .abx)
  | .lax f => [Mode.aby, .izy].contains f.mode
  | .las _ => true
  | .nopAlt _ f => decide (f.mode = .abx)
  | _ => false

/-! ## Invariants -/

/-- P[5] = 1 and P[4] = 0 (R110). -/
def statusOk (s : State) : Bool := s.cpu.p.getLsbD 5 && !s.cpu.p.getLsbD 4

/-- What is in flight was fetched as R401 fetches: a well-formed instruction with an operand of its
form, or a sequence, with cycles left (R120). -/
def recordSound (s : State) : Bool :=
  match s.cpu.inflight with
  | none => true
  | some r =>
    decide (2 ≤ r.total) && decide (r.elapsed < r.total) &&
      (match r.kind with
       | .op i => i.wellFormed && operandFits i.form r.operand
       | .seq _ => true)

/-- The PPU's fields are in the ranges of R130: the position on the grid, at most 8 evaluated sprites
of the 64, 8 render slots. -/
def ppuInRange (s : State) : Bool :=
  decide (s.ppu.line < 262) && decide (s.ppu.dot < 341) && decide (s.ppu.eval.length ≤ 8) &&
    s.ppu.eval.all (fun e => decide (e.index < 64) && decide (e.row < 16)) &&
    decide (s.ppu.render.length = 8)

/-- The APU's and the controllers' fields are in the ranges of R131 and R132, the DMC reads program
space only (R1276), and the noise register is not stuck at 0. -/
def apuInRange (s : State) : Bool :=
  decide (0x8000 ≤ s.apu.dmc.curAddr.toNat) && decide (0xC000 ≤ s.apu.dmc.sampleAddr.toNat) &&
    decide (1 ≤ s.apu.dmc.bitsRemaining) && decide (s.apu.dmc.bitsRemaining ≤ 8) &&
    decide (s.apu.noise.lfsr ≠ 0) &&
    (match s.apu.seq.resetDelay with
     | none => true
     | some k => decide (1 ≤ k) && decide (k ≤ 3)) &&
    decide (s.bus.count1 ≤ 8) && decide (s.bus.count2 ≤ 8)

/-- The invariant of the CPU, the PPU, the APU and the controllers. -/
def State.Inv (s : State) : Prop :=
  statusOk s = true ∧ recordSound s = true ∧ ppuInRange s = true ∧ apuInRange s = true

/-! ## Runs -/

/-- `n` cycles lead from `s` to `t`, and something is in flight after each of them. -/
def StaysInFlight : Nat → State → State → Prop
  | 0, s, t => s = t
  | n + 1, s, t => ∃ u, cycle s = .next u ∧ u.cpu.inflight.isSome = true ∧ StaysInFlight n u t

/-- What a cycle makes of the outcome of the CPU's step (R1501). -/
def thenDevices (o : Host.Outcome State Fault Refusal) : Host.Outcome State Fault Refusal :=
  match o with
  | .next t => .next (afterCpu t)
  | .fault f => .fault f
  | .refused r => .refused r

/-- `s` after `n` reads of CPU address `a`. -/
def afterReads (a : Word) : Nat → State → State
  | 0, s => s
  | n + 1, s => afterReads a n (memRead a s).2

/-- An MMC1 after a list of writes, each a byte to an address (R1420). -/
def mmc1After : List (Nat × Byte) → Mmc1 → Mmc1
  | [], m => m
  | (a, d) :: rest, m => mmc1After rest (m.write a d)

/-- An MMC3 after `n` rises of A12 (R1456). -/
def mmc3After : Nat → Mmc3 → Mmc3
  | 0, m => m
  | n + 1, m => mmc3After n m.a12Rise

end Sys2Proof.Machine
end

