-- ==== Sys2Proof/Certificates/Slice0/Obligations.lean ====
section
/-! DEFINITION. Certificates/Slice0/Obligations.lean: the statements, from the numbered rules of spec/. -/

open Sys2Proof Sys2Proof.Machine

/-! ## Reset -/

/-- R140: the CPU after `power_cycle`; and its PC, which the RESET sequence's final cycle loads. -/
def Obligations.PowerCycleCpu : Prop :=
  (∀ (fill : Fill) (cart : Cart) (host : HostIO),
    let s := State.powerCycle fill cart host
    s.cpu.a = 0x00 ∧ s.cpu.x = 0x00 ∧ s.cpu.y = 0x00 ∧ s.cpu.s = 0xFD ∧ s.cpu.p = 0x24 ∧
    (∃ r, s.cpu.inflight = some r ∧ r.kind = .seq .reset ∧ r.total = 7 ∧ r.elapsed = 0) ∧
    s.cpu.intReq = none ∧ s.cpu.nmiPending = false ∧ s.cpu.nmiPrev = false ∧
    s.cpu.halted = false ∧ s.cpu.dmcStall = 0 ∧ s.fault = none ∧ s.refused = none) ∧
  ∀ (r : Inflight) (s : State), (completeSeq .reset r s).cpu.pc = (read16 0xFFFC s).1

/-- R141, R142, R143, R145, R144 with R1412, R1422, R1432, R1442, R1452, R1462: the PPU, the APU, the
bus, the counters and the mapper after `power_cycle`, for every fill. -/
def Obligations.PowerCycleDevices : Prop :=
  ∀ (fill : Fill) (cart : Cart) (host : HostIO),
    let s := State.powerCycle fill cart host
    (s.ppu.ctrl = 0 ∧ s.ppu.mask = 0 ∧ s.ppu.vblank = false ∧ s.ppu.s0hit = false ∧
      s.ppu.overflow = false ∧ s.ppu.oamaddr = 0 ∧ s.ppu.v = 0 ∧ s.ppu.t = 0 ∧ s.ppu.x = 0 ∧
      s.ppu.w = false ∧ s.ppu.rdbuf = 0 ∧ s.ppu.oam = fill.oam ∧ s.ppu.pal = fill.pal ∧
      s.ppu.line = 0 ∧ s.ppu.dot = 0 ∧ s.ppu.frame = 0 ∧ s.ppu.bgLo = 0 ∧ s.ppu.bgHi = 0 ∧
      s.ppu.atLo = 0 ∧ s.ppu.atHi = 0 ∧ s.ppu.ntLatch = 0 ∧ s.ppu.atLatch = 0 ∧
      s.ppu.ptLoLatch = 0 ∧ s.ppu.ptHiLatch = 0 ∧ s.ppu.eval = [] ∧
      s.ppu.render.length = 8 ∧ (∀ r ∈ s.ppu.render, r.valid = false) ∧
      s.ppu.suppressVbl = false ∧ s.ppu.lastA12 = false ∧
      ∀ l x, s.ppu.fb.get l x = ⟨0x0F, 0⟩) ∧
    (s.apu.p1 = Pulse.powerUp ∧ s.apu.p2 = Pulse.powerUp ∧
      Pulse.powerUp.enabled = false ∧ Pulse.powerUp.length = 0 ∧ Pulse.powerUp.timer = 0 ∧
      Pulse.powerUp.seq = 0 ∧ Pulse.powerUp.env = ⟨false, 0, 0, false, 0⟩ ∧
      Pulse.powerUp.sweep = ⟨false, 0, false, 0, 0, false⟩ ∧
      s.apu.tri.enabled = false ∧ s.apu.tri.length = 0 ∧ s.apu.tri.linear = 0 ∧
      s.apu.tri.linearReload = 0 ∧ s.apu.tri.linearReloadFlag = false ∧
      s.apu.tri.timer = 0 ∧ s.apu.tri.seq = 0 ∧
      s.apu.noise.enabled = false ∧ s.apu.noise.length = 0 ∧ s.apu.noise.timer = 0 ∧
      s.apu.noise.env = ⟨false, 0, 0, false, 0⟩ ∧ s.apu.noise.lfsr = 1 ∧
      s.apu.dmc.output = 0 ∧ s.apu.dmc.sampleAddr = 0xC000 ∧ s.apu.dmc.sampleLen = 1 ∧
      s.apu.dmc.curAddr = 0xC000 ∧ s.apu.dmc.bytesRemaining = 0 ∧ s.apu.dmc.buffer = none ∧
      s.apu.dmc.bitsRemaining = 8 ∧ s.apu.dmc.silence = true ∧ s.apu.dmc.irqFlag = false ∧
      s.apu.dmc.rateIndex = 0 ∧ s.apu.dmc.timer = 0 ∧
      s.apu.seq = ⟨false, false, 0, false, none⟩ ∧ s.apu.mix.sampleAcc = 0 ∧
      s.apu.mix.sampleCount = 0) ∧
    (s.bus.ram = fill.ram ∧ s.bus.vram = fill.vram ∧ s.bus.ppuLatch = 0 ∧ s.bus.apuLatch = 0 ∧
      s.bus.strobe = false ∧ s.bus.shift1 = 0 ∧ s.bus.shift2 = 0 ∧ s.bus.count1 = 0 ∧
      s.bus.count2 = 0) ∧
    (s.t = 0 ∧ s.frames = 0) ∧
    (s.cart.prg = cart.prg ∧ s.cart.prgLen = cart.prgLen ∧ s.cart.chr = cart.chr ∧
      s.cart.chrLen = cart.chrLen ∧ s.cart.mirrorFlag = cart.mirrorFlag ∧
      s.cart.prgRam = fill.prgRam ∧ s.cart.chrRam = fill.chrRam ∧
      (cart.mapper = .nrom → s.cart.mapper = .nrom) ∧
      (∀ m, cart.mapper = .mmc1 m → s.cart.mapper = .mmc1 ⟨0x10, 0x0C, 0, 0, 0⟩) ∧
      (∀ b, cart.mapper = .uxrom b → s.cart.mapper = .uxrom 0) ∧
      (∀ b, cart.mapper = .cnrom b → s.cart.mapper = .cnrom 0) ∧
      (∀ m, cart.mapper = .mmc3 m → ∃ k, s.cart.mapper = .mmc3 k ∧ k.target = 0 ∧
        k.prgMode = false ∧ k.chrInv = false ∧ k.r0 = 0 ∧ k.r1 = 2 ∧ k.r2 = 4 ∧ k.r3 = 5 ∧
        k.r4 = 6 ∧ k.r5 = 7 ∧ k.r6 = 0 ∧ k.r7 = 1 ∧ k.mirror = cart.mirrorFlag ∧
        k.irqLatch = 0 ∧ k.irqCounter = 0 ∧ k.irqReload = false ∧ k.irqEnabled = false ∧
        k.irqPending = false) ∧
      ∀ b g, cart.mapper = .axrom b g → s.cart.mapper = .axrom 0 false)

/-- R1553: after `power_cycle()` and 7 orchestrator cycles, for every fill, cartridge and host input. -/
def Obligations.BootAfterSevenCycles : Prop :=
  ∀ (fill : Fill) (cart : Cart) (host : HostIO),
    let s0 := State.powerCycle fill cart host
    let s := runCycles 7 s0
    s.cpu.pc = (read16 0xFFFC s0).1 ∧ s.cpu.a = 0 ∧ s.cpu.x = 0 ∧ s.cpu.y = 0 ∧
    s.cpu.s = 0xFD ∧ s.cpu.p = 0x24 ∧ s.cpu.inflight = none ∧
    s.apu.p1.length = 0 ∧ s.apu.p2.length = 0 ∧ s.apu.tri.length = 0 ∧ s.apu.noise.length = 0 ∧
    (memRead 0x4015 s).1 &&& 0xDF = 0 ∧ s.ppu.line = 0 ∧ s.ppu.dot = 21 ∧ s.t = 7 ∧
    s.fault = none ∧ s.refused = none

/-- The invariants the two tier 3 invariant statements keep hold right after reset; and the triangle's
control flag, to which R142 gives no value of its own, is false after `power_cycle` (the model's
choice: log entry 13). -/
def Obligations.ResetMeetsInvariants : Prop :=
  State.reset.memWf = true ∧ State.reset.Inv ∧
  ∀ (fill : Fill) (cart : Cart) (host : HostIO),
    (State.powerCycle fill cart host).apu.tri.control = false

/-! ## Encoding -/

/-- Some instructions' bytes, written out from the opcode table, decode to the instruction they stand
for. -/
def Obligations.DecodedWords : Prop :=
  decodeTableWord 16 0x80A9 = some (.lda (.imm 0x80)) ∧
  decodeTableWord 24 0x02008D = some (.sta (.abs 0x0200)) ∧
  decodeTableWord 16 0x5069 = some (.adc (.imm 0x50)) ∧
  decodeTableWord 8 0x0A = some (.asl .acc) ∧
  decodeTableWord 24 0xC5F54C = some (.jmp (.abs 0xC5F5)) ∧
  decodeTableWord 24 0x02FF6C = some (.jmp (.ind 0x02FF)) ∧
  decodeTableWord 16 0xF8D0 = some (.bne 0xF8) ∧
  decodeTableWord 8 0x00 = some .brk ∧
  decodeTableWord 16 0x10A7 = some (.lax (.zp 0x10)) ∧
  decodeTableWord 16 0x03EB = some (.sbcAlt 0x03) ∧
  decodeTableWord 8 0x02 = some (.jam 0x02) ∧
  decodeTableWord 16 0x8091 = some (.sta (.izy 0x80))

/-- Decoding an encoded well-formed instruction gives it back, whatever bytes follow: every operand at
every value. -/
def Obligations.DecodeOfEncode : Prop :=
  ∀ (i : Instr) (rest : List Byte), i.wellFormed = true → decode (encode i ++ rest) = .ok (i, rest)

/-- Every opcode byte decodes (R331), to a well-formed instruction whose encoding is the bytes read,
as many as its row of the table says. -/
def Obligations.EncodeOfDecode : Prop :=
  ∀ op b1 b2 : Byte,
    (decodeInstr op b1 b2).wellFormed = true ∧
    encode (decodeInstr op b1 b2) = [op, b1, b2].take (opRow op).length

/-! ## Operands -/

/-- R410 to R415: the modes that read no pointer, with their addresses as numbers. -/
def Obligations.ResolveWithoutPointer : Prop :=
  ∀ (pc0 : Word) (s : State),
    resolve .imp pc0 s = ⟨.implicit, false, s⟩ ∧
    resolve .acc pc0 s = ⟨.accumulator, false, s⟩ ∧
    (∀ b, resolve (.imm b) pc0 s = ⟨.immediate b, false, s⟩) ∧
    (∀ z, ∃ ea : Word, ea.toNat = z.toNat ∧ resolve (.zp z) pc0 s = ⟨.address ea, false, s⟩) ∧
    (∀ z, ∃ ea : Word, ea.toNat = (z.toNat + s.cpu.x.toNat) % 256 ∧
      resolve (.zpx z) pc0 s = ⟨.address ea, false, s⟩) ∧
    (∀ z, ∃ ea : Word, ea.toNat = (z.toNat + s.cpu.y.toNat) % 256 ∧
      resolve (.zpy z) pc0 s = ⟨.address ea, false, s⟩) ∧
    (∀ a, resolve (.abs a) pc0 s = ⟨.address a, false, s⟩) ∧
    (∀ a, ∃ ea : Word, ea.toNat = (a.toNat + s.cpu.x.toNat) % 65536 ∧
      resolve (.abx a) pc0 s = ⟨.address ea, decide (a.toNat / 256 ≠ ea.toNat / 256), s⟩) ∧
    (∀ a, ∃ ea : Word, ea.toNat = (a.toNat + s.cpu.y.toNat) % 65536 ∧
      resolve (.aby a) pc0 s = ⟨.address ea, decide (a.toNat / 256 ≠ ea.toNat / 256), s⟩)

/-- R416, R417, R418: the modes that read a pointer: which two bytes, in which order, and what they
make. -/
def Obligations.ResolveThroughPointer : Prop :=
  ∀ (pc0 : Word) (s : State),
    (∀ ptr : Word, let lo := memRead ptr s
      let hi := memRead ((ptr &&& 0xFF00) ||| ((ptr + 1) &&& 0x00FF)) lo.2
      ∃ ea : Word, ea.toNat = 256 * hi.1.toNat + lo.1.toNat ∧
        resolve (.ind ptr) pc0 s = ⟨.address ea, false, hi.2⟩) ∧
    (∀ z : Byte, let p := BitVec.ofNat 16 ((z.toNat + s.cpu.x.toNat) % 256)
      let lo := memRead p s
      let hi := memRead (BitVec.ofNat 16 ((p.toNat + 1) % 256)) lo.2
      ∃ ea : Word, ea.toNat = 256 * hi.1.toNat + lo.1.toNat ∧
        resolve (.izx z) pc0 s = ⟨.address ea, false, hi.2⟩) ∧
    (∀ z : Byte, let lo := memRead (BitVec.ofNat 16 z.toNat) s
      let hi := memRead (BitVec.ofNat 16 ((z.toNat + 1) % 256)) lo.2
      ∃ base ea : Word, base.toNat = 256 * hi.1.toNat + lo.1.toNat ∧
        ea.toNat = (base.toNat + s.cpu.y.toNat) % 65536 ∧
        resolve (.izy z) pc0 s =
          ⟨.address ea, decide (base.toNat / 256 ≠ ea.toNat / 256), hi.2⟩)

/-- R405: the operand primitives, case by case: what each reads, writes and returns. -/
def Obligations.OperandPrimitives : Prop :=
  ∀ (s : State) (v : Byte) (f : Byte → Cpu → Byte × Cpu),
    (∀ b, load (.immediate b) s = .ok (b, s)) ∧
    (∀ ea, load (.address ea) s = .ok (memRead ea s)) ∧
    load .accumulator s = .ok (s.cpu.a, s) ∧
    (∀ ea, store (.address ea) v s = memWrite ea v s) ∧
    rmw f .accumulator s =
      .ok ((f s.cpu.a s.cpu).1, { s with cpu := { (f s.cpu.a s.cpu).2 with a := (f s.cpu.a s.cpu).1 } }) ∧
    ∀ ea t, memWrite ea (f (memRead ea s).1 (memRead ea s).2.cpu).1
        { (memRead ea s).2 with cpu := (f (memRead ea s).1 (memRead ea s).2.cpu).2 } = .ok t →
      rmw f (.address ea) s = .ok ((f (memRead ea s).1 (memRead ea s).2.cpu).1, t)

/-! ## Cycles -/

/-- R419, R421, R422, R423: the branch target and the three penalties. -/
def Obligations.CyclePenalties : Prop :=
  (∀ (d : Byte) (pc0 : Word) (s : State),
    resolve (.rel d) pc0 s = ⟨.relative (BitVec.ofInt 16 (pc0.toNat + 2 + d.toInt)), false, s⟩) ∧
  (∀ (i : Instr), i.wellFormed = true → i.row.page = hasPageColumn i) ∧
  (∀ (row : OpRow) (crossed : Bool),
    pagePenalty row crossed = if row.page = true ∧ crossed = true then 1 else 0) ∧
  (∀ (taken : Bool) (pc0 target : Word), branchPenalty taken pc0 (.relative target) =
    if taken = false then 0
    else if (pc0 + 2) &&& 0xFF00 = target &&& 0xFF00 then 1 else 2) ∧
  (∀ (i : Instr) (s : State), i.form.mode = .rel → (newRecord i s).1.taken = branchCond i s.cpu) ∧
  ∀ (t : Nat) (i : Instr) (o : Operand) (total0 : Nat), dmaPenalty t i o total0 =
    if writesMemory i = true ∧ o = .address 0x4014 then
      (if (t + total0 - 1) % 2 = 1 then 514 else 513)
    else 0

/-- R420, R424: the total of a fetched instruction is the sum of its base count and the penalties, of
which page and branch never both apply; it is at least 2 and at most 522. -/
def Obligations.CycleTotals : Prop :=
  ∀ (i : Instr) (s : State), i.wellFormed = true →
    let r := (newRecord i s).1
    let page := pagePenalty i.row (resolve i.form s.cpu.pc s).crossed
    let branch := branchPenalty r.taken s.cpu.pc r.operand
    let total0 := i.row.base + page + branch
    r.total = total0 + dmaPenalty s.t i r.operand total0 ∧ (page = 0 ∨ branch = 0) ∧
    2 ≤ r.total ∧ r.total ≤ 522

/-! ## The engine -/

/-- R401, R402: `fetch()` reads the opcode byte, refuses a set U opcode at once, in the state after that
read with its mark, otherwise reads the operand bytes, as many as the opcode's row says, and issues
the instruction they decode to. That the refusal carries its state is the model's choice (log entry
11). -/
def Obligations.FetchDecodes : Prop :=
  ∀ s : State, s.cpu.intReq = none →
    let b0 := memRead s.cpu.pc s
    let b1 := memRead (s.cpu.pc + 1) b0.2
    let b2 := memRead (s.cpu.pc + 2) b1.2
    ((opRow b0.1).cls = .unstable → fetch s =
      .refused (.unstableOpcode b0.1 { b0.2 with refused := some (.unstableOpcode b0.1) })) ∧
    ((opRow b0.1).cls ≠ .unstable →
      ((opRow b0.1).length = 1 →
        ∃ i, decode [b0.1] = .ok (i, []) ∧ fetch s = .next (issue i b0.2)) ∧
      ((opRow b0.1).length = 2 →
        ∃ i, decode [b0.1, b1.1] = .ok (i, []) ∧ fetch s = .next (issue i b1.2)) ∧
      ((opRow b0.1).length = 3 →
        ∃ i, decode [b0.1, b1.1, b2.1] = .ok (i, []) ∧ fetch s = .next (issue i b2.2)))

/-- R400, R404: in an instruction's final cycle the step is `exec` of it, after the poll and the count of
that cycle, and then the dots and the APU step of that cycle. That the step ends there, at the
instruction boundary, is the model's choice (log entry 1). -/
def Obligations.StepRunsFinalCycle : Prop :=
  ∀ (s : State) (i : Instr) (r : Inflight),
    s.fault = none → s.refused = none → s.cpu.halted = false → s.cpu.dmcStall = 0 →
    s.cpu.inflight = some r → r.kind = .op i → r.elapsed + 1 = r.total →
    step s = thenDevices (exec i (countElapsed (pollAtEntry r s)))

/-- A step from an instruction boundary runs the instruction its fetch issues: its first cycle fetches
it, every later cycle keeps it in flight, and when its final cycle comes, `exec` of it, with the poll
before and the devices after, is what the step answers. Where the DMC has no byte to fetch, the final
cycle comes after `total - 1` cycles. That one step runs all the cycles of the instruction, and that it
runs at most 1024 of them from a boundary (the premise `n < 1024`), are the model's choice (log entry
1). -/
def Obligations.StepRunsDecodedInstruction : Prop :=
  ∀ (s u : State) (i : Instr),
    s.fault = none → s.refused = none → s.cpu.halted = false → s.cpu.dmcStall = 0 →
    s.cpu.inflight = none → s.cpu.intReq = none → i.wellFormed = true → fetch s = .next (issue i u) →
    (∀ (n : Nat) (m : State) (r : Inflight), n < 1024 → StaysInFlight n s m →
      m.cpu.inflight = some r → m.cpu.dmcStall = 0 → r.elapsed + 1 = r.total →
      r.kind = .op i ∧ r.operand = (newRecord i u).1.operand ∧ r.pc0 = s.cpu.pc ∧
      r.taken = (newRecord i u).1.taken ∧ r.total = (newRecord i u).1.total ∧
      step s = thenDevices (exec i (countElapsed (pollAtEntry r m)))) ∧
    (u.apu.dmc.bytesRemaining = 0 →
      ∃ m r, StaysInFlight ((newRecord i u).1.total - 1) s m ∧ m.cpu.inflight = some r ∧
        m.cpu.dmcStall = 0 ∧ r.elapsed + 1 = r.total)

/-- R450: a stalled CPU step does nothing but count the stall down. R451: a halted CPU takes no further
effective step, for ever, while the cycles go on. The DMC's addresses are in program space, as the
invariant says. -/
def Obligations.StallAndHalt : Prop :=
  (∀ s : State, s.cpu.halted = false → 0 < s.cpu.dmcStall →
    cpuStep s = .next { s with cpu := { s.cpu with dmcStall := s.cpu.dmcStall - 1 } }) ∧
  ∀ (n : Nat) (s : State), s.cpu.halted = true → s.fault = none → s.refused = none →
    apuInRange s = true →
    ∃ (k : Nat) (np nv : Bool),
      (runCycles n s).cpu = { s.cpu with dmcStall := k, nmiPending := np, nmiPrev := nv } ∧
      (runCycles n s).fault = none ∧ (runCycles n s).refused = none ∧ (runCycles n s).t = s.t + n

/-- R440, R441, R912: what a poll records, when polls happen, and the hijack. -/
def Obligations.InterruptPolls : Prop :=
  (∀ (r : Inflight) (s : State), ((∃ q, r.kind = .seq q) ∨ r.kind = .op .brk) →
    poll r s =
      if (r.kind = .seq .irq ∨ r.kind = .op .brk) ∧ s.cpu.nmiPending = true then
        { s with cpu := { s.cpu with
            inflight := some { r with hijacked := true }, nmiPending := false, intReq := none } }
      else { s with cpu := { s.cpu with inflight := some r, intReq := none } }) ∧
  (∀ (r : Inflight) (i : Instr) (s : State), r.kind = .op i → i ≠ .brk →
    let irq := s.apu.seq.frameIrq = true ∨ s.apu.dmc.irqFlag = true ∨ s.cart.mapper.irqPending = true
    let masked := if i = .rti then
        (memRead (0x0100 ||| zext16 (s.cpu.s + 1)) s).1.getLsbD 2 = true
      else s.cpu.p.getLsbD 2 = true
    (s.cpu.nmiPending = true →
      poll r s = { s with cpu := { s.cpu with intReq := some .nmi } }) ∧
    (s.cpu.nmiPending = false → irq ∧ ¬ masked →
      poll r s = { s with cpu := { s.cpu with intReq := some .irq } }) ∧
    (s.cpu.nmiPending = false → ¬ (irq ∧ ¬ masked) →
      poll r s = { s with cpu := { s.cpu with intReq := none } })) ∧
  ∀ r : Inflight,
    ((∀ i, r.kind = .op i → i.form.mode ≠ .rel) →
      (pollPoint r = true ↔ r.elapsed + 1 = r.total)) ∧
    (∀ i, r.kind = .op i → i.form.mode = .rel →
      (r.total = 2 ∨ r.total = 3 → (pollPoint r = true ↔ r.elapsed = 1)) ∧
      (r.total = 4 → (pollPoint r = true ↔ r.elapsed = 1 ∨ r.elapsed = 3)))

/-- R910, R401, R442: a recorded interrupt starts its sequence in place of the next instruction. R903:
only a rise of the NMI output sets the latch. -/
def Obligations.InterruptDetectionAndStart : Prop :=
  (∀ (s : State) (q : Interrupt), s.cpu.intReq = some q →
    fetch s = .next { s with cpu := { s.cpu with
      intReq := none
      nmiPending := if q = .nmi then false else s.cpu.nmiPending
      inflight := some
        { kind := .seq (if q = .nmi then .nmi else .irq), pc0 := s.cpu.pc, operand := .implicit
          taken := false, hijacked := false, total := 7, elapsed := 0 } } }) ∧
  ∀ s : State,
    let out := s.ppu.vblank && s.ppu.ctrl.getLsbD 7
    nmiDetect s = { s with cpu := { s.cpu with
      nmiPending := s.cpu.nmiPending || (out && !s.cpu.nmiPrev), nmiPrev := out } }

/-- R911, R914: the effect of the NMI and IRQ sequences: what is pushed and where, P, S and PC after, and
that nothing else changes. -/
def Obligations.InterruptEntry : Prop :=
  ∀ (r : Inflight) (s : State),
    EntersInterrupt s.cpu.pc ((s.cpu.p ||| 0x20) &&& 0xEF) 0xFFFA s (completeSeq .nmi r s) ∧
    EntersInterrupt s.cpu.pc ((s.cpu.p ||| 0x20) &&& 0xEF)
      (if r.hijacked then 0xFFFA else 0xFFFE) s (completeSeq .irq r s)

/-! ## The bus -/

/-- R210, R211, R213: where the router sends a read and a write of each address. That an unmapped read
gives `Config.unmappedRead` of the draw counter, and counts a draw, is the model's choice (log entry
5), and so is that a fault carries its state (log entry 11). -/
def Obligations.BusRouting : Prop :=
  ∀ (a : Word) (d : Byte) (s : State),
    (a.toNat < 0x2000 →
      memRead a s = (s.bus.ram.read (a.toNat % 0x800), s) ∧
      memWrite a d s =
        .ok { s with bus := { s.bus with ram := s.bus.ram.write (a.toNat % 0x800) d } }) ∧
    (0x2000 ≤ a.toNat → a.toNat < 0x4000 →
      memRead a s = ppuRegRead (a.toNat % 8) s ∧
      memWrite a d s =
        ppuRegWrite (a.toNat % 8) d { s with bus := { s.bus with ppuLatch := d } }) ∧
    (0x4000 ≤ a.toNat → a.toNat ≤ 0x4013 → memRead a s = (s.bus.apuLatch, s)) ∧
    (a = 0x4014 → memRead a s = (s.bus.ppuLatch, s) ∧
      memWrite a d s = .ok (oamDma d { s with bus := { s.bus with ppuLatch := d } })) ∧
    (a = 0x4015 → memRead a s = apuStatusRead s) ∧
    (a = 0x4016 → memRead a s = controllerRead1 s ∧ memWrite a d s = .ok (controllerWrite d s)) ∧
    (a = 0x4017 → memRead a s = controllerRead2 s) ∧
    (0x4000 ≤ a.toNat → a.toNat ≤ 0x4017 → a ≠ 0x4014 → a ≠ 0x4016 →
      memWrite a d s = .ok { s with
        bus := { s.bus with apuLatch := d }
        apu := apuRegWrite s.t (a.toNat - 0x4000) d s.apu }) ∧
    (0x4018 ≤ a.toNat → a.toNat < 0x6000 →
      memRead a s = (Config.unmappedRead s.draws a, { s with draws := s.draws + 1 }) ∧
      memWrite a d s = .ok s) ∧
    (0x6000 ≤ a.toNat → memRead a s = (s.cart.cpuRead a.toNat, s) ∧
      (∀ c, s.cart.cpuWrite a.toNat d = .ok c → memWrite a d s = .ok { s with cart := c }) ∧
      ∀ k, s.cart.cpuWrite a.toNat d = .error k →
        k = .romWrite ∧ memWrite a d s = .error (.romWrite { s with fault := some .romWrite }))

/-- R201, R240, R1403: a read of console RAM or PRG-RAM gives the latest byte written there; console RAM
is mirrored every 2 KiB. -/
def Obligations.MemoryReadAfterWrite : Prop :=
  ∀ (a b : Word) (d : Byte) (s : State),
    (a.toNat < 0x2000 → b.toNat < 0x2000 →
      ∃ t, memWrite a d s = .ok t ∧
        memRead b t = (if a.toNat % 2048 = b.toNat % 2048 then d else (memRead b s).1, t)) ∧
    (0x6000 ≤ a.toNat → a.toNat < 0x8000 → 0x6000 ≤ b.toNat → b.toNat < 0x8000 →
      ∃ t, memWrite a d s = .ok t ∧ memRead b t = (if a = b then d else (memRead b s).1, t))

/-- R212: what the two open-bus latches take, and what a read of a write-only register gives. -/
def Obligations.OpenBusLatches : Prop :=
  ∀ (a : Word) (d : Byte) (s t : State),
    (0x2000 ≤ a.toNat → a.toNat < 0x4000 → memWrite a d s = .ok t → t.bus.ppuLatch = d) ∧
    (memWrite 0x4014 d s = .ok (oamDma d { s with bus := { s.bus with ppuLatch := d } })) ∧
    (0x2000 ≤ a.toNat → a.toNat < 0x4000 → a.toNat % 8 ∈ [2, 4, 7] →
      (memRead a s).2.bus.ppuLatch = (memRead a s).1) ∧
    ((0x2000 ≤ a.toNat ∧ a.toNat < 0x4000 ∧ a.toNat % 8 ∈ [0, 1, 3, 5, 6]) ∨ a = 0x4014 →
      memRead a s = (s.bus.ppuLatch, s)) ∧
    (0x4000 ≤ a.toNat → a.toNat ≤ 0x4017 → a ≠ 0x4014 → a ≠ 0x4016 →
      memWrite a d s = .ok t → t.bus.apuLatch = d) ∧
    (memRead 0x4015 s).2.bus.apuLatch = (memRead 0x4015 s).1 ∧
    (0x4000 ≤ a.toNat → a.toNat ≤ 0x4013 → memRead a s = (s.bus.apuLatch, s)) ∧
    (a = 0x4016 ∨ a = 0x4017 →
      (memRead a s).2.bus.ppuLatch = s.bus.ppuLatch ∧ (memRead a s).2.bus.apuLatch = s.bus.apuLatch)

/-- R214, R1501: a write faults with `RomWrite` exactly when it reaches read-only cartridge storage, with
the fault state that point has, and ends in a next state otherwise; and so a storing instruction
whose write reaches such storage ends in that fault, its read done and C put by a shift. That the fault carries
its state is the model's choice (log entry 11). -/
def Obligations.RomWriteFaults : Prop :=
  (∀ (a : Word) (d : Byte) (s : State),
    (storable a s = true → ∃ t, memWrite a d s = .ok t) ∧
    (storable a s = false → memWrite a d s = .error (.romWrite (romFaultState a d s)))) ∧
  ∀ (i : Instr) (s : State), writesMemory i = true → i.wellFormed = true → recordFits i s = true →
    writeAllowed i s = false →
    ∃ a, (recOf i s).operand = .address a ∧
      let m := (memRead a (preOf i s)).1
      let u := storeState i s
      exec i s = .fault (.romWrite
        (romFaultState a (writtenByte i m u.cpu) { u with cpu := cpuAtWrite i m u.cpu }))

/-- R250: OAM DMA leaves OAMADDR as it was; from a page of console RAM or of cartridge space it copies
the page's 256 bytes, from OAMADDR on and round, and changes nothing else. -/
def Obligations.OamDmaCopies : Prop :=
  ∀ (d : Byte) (s : State),
    (oamDma d s).ppu.oamaddr = s.ppu.oamaddr ∧
    (d.toNat < 0x20 ∨ 0x60 ≤ d.toNat →
      oamDma d s = { s with ppu := { s.ppu with oam := (oamDma d s).ppu.oam } } ∧
      ∀ n, n < 256 →
        (oamDma d s).ppu.oam.read ((s.ppu.oamaddr.toNat + n) % 256) =
          (memRead (BitVec.ofNat 16 (256 * d.toNat + n)) s).1)

/-- A CPU-bus read changes no byte of memory, no register of the CPU but the two interrupt records, and
neither time, the frame, the host's fields nor the marks. -/
def Obligations.ReadFrame : Prop :=
  ∀ (a : Word) (s : State),
    let t := (memRead a s).2
    SameMemory s t ∧
    (∃ np q, t.cpu = { s.cpu with nmiPending := np, intReq := q }) ∧
    (a.toNat < 0x2000 ∨ 0x4000 ≤ a.toNat → t.cpu = s.cpu ∧ t.ppu = s.ppu) ∧
    (a.toNat < 0x2000 ∨ 0x6000 ≤ a.toNat → t = s) ∧
    t.t = s.t ∧ t.frames = s.frames ∧ t.host = s.host ∧ t.fault = s.fault ∧ t.refused = s.refused ∧
    t.ppu.line = s.ppu.line ∧ t.ppu.dot = s.ppu.dot ∧ t.ppu.frame = s.ppu.frame

/-- A CPU-bus write stores its byte where the map sends it, every other byte of memory reads as before,
and no register of the CPU but the two interrupt records changes. -/
def Obligations.WriteFrame : Prop :=
  ∀ (a : Word) (d : Byte) (s t : State), memWrite a d s = .ok t →
    OnlyStoredAt a s t ∧
    (∀ n, storesRam a n → t.bus.ram.read n = d) ∧
    (∀ n, storesPrgRam a n → t.cart.prgRam.read n = d) ∧
    (∀ n, isPpuReg a 4 → storesOam a s n → t.ppu.oam.read n = d) ∧
    (∀ n, storesVram a s n → t.bus.vram.read n = d) ∧
    (∀ n, storesPal a s n → palRead t.ppu.pal n = d.setWidth 6) ∧
    (∀ n, storesChrRam a s n → t.cart.chrRam.read n = d) ∧
    (∃ np q, t.cpu = { s.cpu with nmiPending := np, intReq := q }) ∧
    t.t = s.t ∧ t.frames = s.frames ∧ t.host = s.host ∧ t.fault = s.fault ∧ t.refused = s.refused ∧
    t.ppu.line = s.ppu.line ∧ t.ppu.dot = s.ppu.dot ∧ t.ppu.frame = s.ppu.frame

/-! ## The instructions complete, and with these results -/

/-- LDA, LDX, LDY, LAX and LAS (R510, R511, R512, R810, R834), in every form. -/
def Obligations.LoadsComplete : Prop :=
  (∀ (f : Form) (s : State), (Instr.lda f).wellFormed = true → recordFits (.lda f) s = true →
    ReadsThen (.lda f) s fun v c => { c with a := v, p := withNZ v c.p }) ∧
  (∀ (f : Form) (s : State), (Instr.ldx f).wellFormed = true → recordFits (.ldx f) s = true →
    ReadsThen (.ldx f) s fun v c => { c with x := v, p := withNZ v c.p }) ∧
  (∀ (f : Form) (s : State), (Instr.ldy f).wellFormed = true → recordFits (.ldy f) s = true →
    ReadsThen (.ldy f) s fun v c => { c with y := v, p := withNZ v c.p }) ∧
  (∀ (f : Form) (s : State), (Instr.lax f).wellFormed = true → recordFits (.lax f) s = true →
    ReadsThen (.lax f) s fun v c => { c with a := v, x := v, p := withNZ v c.p }) ∧
  ∀ (a : Word) (s : State), recordFits (.las a) s = true →
    ReadsThen (.las a) s fun m c =>
      let v := m &&& c.s
      { c with a := v, x := v, s := v, p := withNZ v c.p }

/-- ADC, SBC and SBC $EB (R600, R610, R611, R821): exact sum and difference, D ignored (R112). -/
def Obligations.ArithmeticCompletes : Prop :=
  (∀ (f : Form) (s : State), (Instr.adc f).wellFormed = true → recordFits (.adc f) s = true →
    ReadsThen (.adc f) s afterAdd) ∧
  (∀ (f : Form) (s : State), (Instr.sbc f).wellFormed = true → recordFits (.sbc f) s = true →
    ReadsThen (.sbc f) s afterSub) ∧
  ∀ (b : Byte) (s : State), recordFits (.sbcAlt b) s = true → ReadsThen (.sbcAlt b) s afterSub

/-- AND, ORA, EOR, BIT, CMP, CPX and CPY (R612 to R615, R620 to R622), in every form. -/
def Obligations.LogicAndComparesComplete : Prop :=
  (∀ (f : Form) (s : State), (Instr.and f).wellFormed = true → recordFits (.and f) s = true →
    ReadsThen (.and f) s fun m c => { c with a := c.a &&& m, p := withNZ (c.a &&& m) c.p }) ∧
  (∀ (f : Form) (s : State), (Instr.ora f).wellFormed = true → recordFits (.ora f) s = true →
    ReadsThen (.ora f) s fun m c => { c with a := c.a ||| m, p := withNZ (c.a ||| m) c.p }) ∧
  (∀ (f : Form) (s : State), (Instr.eor f).wellFormed = true → recordFits (.eor f) s = true →
    ReadsThen (.eor f) s fun m c => { c with a := c.a ^^^ m, p := withNZ (c.a ^^^ m) c.p }) ∧
  (∀ (f : Form) (s : State), (Instr.bit f).wellFormed = true → recordFits (.bit f) s = true →
    ReadsThen (.bit f) s fun m c =>
      { c with p := (c.p &&& 0x3D) ||| (m &&& 0xC0) ||| (if c.a &&& m = 0 then 0x02 else 0x00) }) ∧
  (∀ (f : Form) (s : State), (Instr.cmp f).wellFormed = true → recordFits (.cmp f) s = true →
    ReadsThen (.cmp f) s fun m c => afterCompare c.a m c) ∧
  (∀ (f : Form) (s : State), (Instr.cpx f).wellFormed = true → recordFits (.cpx f) s = true →
    ReadsThen (.cpx f) s fun m c => afterCompare c.x m c) ∧
  ∀ (f : Form) (s : State), (Instr.cpy f).wellFormed = true → recordFits (.cpy f) s = true →
    ReadsThen (.cpy f) s fun m c => afterCompare c.y m c

/-- ANC, ALR, ARR and SBX (R830 to R833). -/
def Obligations.ImmediateUnofficialCompletes : Prop :=
  (∀ (op b : Byte) (s : State), (Instr.anc op b).wellFormed = true →
    recordFits (.anc op b) s = true →
    ReadsThen (.anc op b) s fun m c =>
      let r := c.a &&& m
      { c with a := r, p := withNZC r (r.getLsbD 7) c.p }) ∧
  (∀ (b : Byte) (s : State), recordFits (.alr b) s = true →
    ReadsThen (.alr b) s fun m c =>
      let r := (c.a &&& m) >>> 1
      { c with a := r, p := withNZC r ((c.a &&& m).getLsbD 0) c.p }) ∧
  (∀ (b : Byte) (s : State), recordFits (.arr b) s = true →
    ReadsThen (.arr b) s fun m c =>
      let r := ((c.a &&& m) >>> 1) ||| ((c.p &&& 1) <<< 7)
      { c with a := r, p := withNVZC r (r.getLsbD 6 ^^ r.getLsbD 5) (r.getLsbD 6) c.p }) ∧
  ∀ (b : Byte) (s : State), recordFits (.sbx b) s = true →
    ReadsThen (.sbx b) s fun m c =>
      let u := c.a &&& c.x
      { c with x := u - m, p := withNZC (u - m) (decide (m.toNat ≤ u.toNat)) c.p }

/-- STA, STX, STY and SAX (R513, R514, R515, R811): no flag and no register changes. -/
def Obligations.StoresComplete : Prop :=
  (∀ (f : Form) (s : State), (Instr.sta f).wellFormed = true → recordFits (.sta f) s = true →
    writeAllowed (.sta f) s = true → Stores (.sta f) s (preOf (.sta f) s).cpu.a) ∧
  (∀ (f : Form) (s : State), (Instr.stx f).wellFormed = true → recordFits (.stx f) s = true →
    writeAllowed (.stx f) s = true → Stores (.stx f) s (preOf (.stx f) s).cpu.x) ∧
  (∀ (f : Form) (s : State), (Instr.sty f).wellFormed = true → recordFits (.sty f) s = true →
    writeAllowed (.sty f) s = true → Stores (.sty f) s (preOf (.sty f) s).cpu.y) ∧
  ∀ (f : Form) (s : State), (Instr.sax f).wellFormed = true → recordFits (.sax f) s = true →
    writeAllowed (.sax f) s = true →
    Stores (.sax f) s ((preOf (.sax f) s).cpu.a &&& (preOf (.sax f) s).cpu.x)

/-- ASL, LSR, ROL and ROR (R640 to R643), on A and on memory. -/
def Obligations.ShiftsComplete : Prop :=
  (∀ s : State, recordFits (.asl .acc) s = true → Sets (.asl .acc) s fun c =>
    { c with a := c.a <<< 1, p := withNZC (c.a <<< 1) (c.a.getLsbD 7) c.p }) ∧
  (∀ s : State, recordFits (.lsr .acc) s = true → Sets (.lsr .acc) s fun c =>
    { c with a := c.a >>> 1, p := withNZC (c.a >>> 1) (c.a.getLsbD 0) c.p }) ∧
  (∀ s : State, recordFits (.rol .acc) s = true → Sets (.rol .acc) s fun c =>
    let r := (c.a <<< 1) ||| (c.p &&& 1)
    { c with a := r, p := withNZC r (c.a.getLsbD 7) c.p }) ∧
  (∀ s : State, recordFits (.ror .acc) s = true → Sets (.ror .acc) s fun c =>
    let r := (c.a >>> 1) ||| ((c.p &&& 1) <<< 7)
    { c with a := r, p := withNZC r (c.a.getLsbD 0) c.p }) ∧
  (∀ (f : Form) (s : State), (Instr.asl f).wellFormed = true → f ≠ .acc →
    recordFits (.asl f) s = true → writeAllowed (.asl f) s = true →
    Modifies (.asl f) s (fun m _ => m <<< 1) (fun m => carryIn (m >>> 7)) resultIn) ∧
  (∀ (f : Form) (s : State), (Instr.lsr f).wellFormed = true → f ≠ .acc →
    recordFits (.lsr f) s = true → writeAllowed (.lsr f) s = true →
    Modifies (.lsr f) s (fun m _ => m >>> 1) carryIn resultIn) ∧
  (∀ (f : Form) (s : State), (Instr.rol f).wellFormed = true → f ≠ .acc →
    recordFits (.rol f) s = true → writeAllowed (.rol f) s = true →
    Modifies (.rol f) s (fun m c => (m <<< 1) ||| (c.p &&& 1)) (fun m => carryIn (m >>> 7)) resultIn) ∧
  ∀ (f : Form) (s : State), (Instr.ror f).wellFormed = true → f ≠ .acc →
    recordFits (.ror f) s = true → writeAllowed (.ror f) s = true →
    Modifies (.ror f) s (fun m c => (m >>> 1) ||| ((c.p &&& 1) <<< 7)) carryIn resultIn

/-- INC, DEC, DCP, ISC, SLO, RLA, SRE and RRA (R630, R631, R812 to R817), in every form. -/
def Obligations.MemoryRmwCompletes : Prop :=
  (∀ (f : Form) (s : State), (Instr.inc f).wellFormed = true → recordFits (.inc f) s = true →
    writeAllowed (.inc f) s = true →
    Modifies (.inc f) s (fun m _ => m + 1) (fun _ c => c) resultIn) ∧
  (∀ (f : Form) (s : State), (Instr.dec f).wellFormed = true → recordFits (.dec f) s = true →
    writeAllowed (.dec f) s = true →
    Modifies (.dec f) s (fun m _ => m - 1) (fun _ c => c) resultIn) ∧
  (∀ (f : Form) (s : State), (Instr.dcp f).wellFormed = true → recordFits (.dcp f) s = true →
    writeAllowed (.dcp f) s = true →
    Modifies (.dcp f) s (fun m _ => m - 1) (fun _ c => c) fun r c => afterCompare c.a r c) ∧
  (∀ (f : Form) (s : State), (Instr.isc f).wellFormed = true → recordFits (.isc f) s = true →
    writeAllowed (.isc f) s = true →
    Modifies (.isc f) s (fun m _ => m + 1) (fun _ c => c) afterSub) ∧
  (∀ (f : Form) (s : State), (Instr.slo f).wellFormed = true → recordFits (.slo f) s = true →
    writeAllowed (.slo f) s = true →
    Modifies (.slo f) s (fun m _ => m <<< 1) (fun m => carryIn (m >>> 7)) fun r c =>
      { c with a := c.a ||| r, p := withNZ (c.a ||| r) c.p }) ∧
  (∀ (f : Form) (s : State), (Instr.rla f).wellFormed = true → recordFits (.rla f) s = true →
    writeAllowed (.rla f) s = true →
    Modifies (.rla f) s (fun m c => (m <<< 1) ||| (c.p &&& 1)) (fun m => carryIn (m >>> 7)) fun r c =>
      { c with a := c.a &&& r, p := withNZ (c.a &&& r) c.p }) ∧
  (∀ (f : Form) (s : State), (Instr.sre f).wellFormed = true → recordFits (.sre f) s = true →
    writeAllowed (.sre f) s = true →
    Modifies (.sre f) s (fun m _ => m >>> 1) carryIn fun r c =>
      { c with a := c.a ^^^ r, p := withNZ (c.a ^^^ r) c.p }) ∧
  ∀ (f : Form) (s : State), (Instr.rra f).wellFormed = true → recordFits (.rra f) s = true →
    writeAllowed (.rra f) s = true →
    Modifies (.rra f) s (fun m c => (m >>> 1) ||| ((c.p &&& 1) <<< 7)) carryIn afterAdd

/-- The register transfers, the index steps, the flag instructions and NOP (R520 to R525, R632 to R635,
R720 to R726, R730): from every state. -/
def Obligations.ImpliedInstructionsComplete : Prop :=
  ∀ s : State,
    Sets .tax s (fun c => { c with x := c.a, p := withNZ c.a c.p }) ∧
    Sets .tay s (fun c => { c with y := c.a, p := withNZ c.a c.p }) ∧
    Sets .txa s (fun c => { c with a := c.x, p := withNZ c.x c.p }) ∧
    Sets .tya s (fun c => { c with a := c.y, p := withNZ c.y c.p }) ∧
    Sets .tsx s (fun c => { c with x := c.s, p := withNZ c.s c.p }) ∧
    Sets .txs s (fun c => { c with s := c.x }) ∧
    Sets .inx s (fun c => { c with x := c.x + 1, p := withNZ (c.x + 1) c.p }) ∧
    Sets .iny s (fun c => { c with y := c.y + 1, p := withNZ (c.y + 1) c.p }) ∧
    Sets .dex s (fun c => { c with x := c.x - 1, p := withNZ (c.x - 1) c.p }) ∧
    Sets .dey s (fun c => { c with y := c.y - 1, p := withNZ (c.y - 1) c.p }) ∧
    Sets .clc s (fun c => { c with p := c.p &&& 0xFE }) ∧
    Sets .sec s (fun c => { c with p := c.p ||| 0x01 }) ∧
    Sets .cli s (fun c => { c with p := c.p &&& 0xFB }) ∧
    Sets .sei s (fun c => { c with p := c.p ||| 0x04 }) ∧
    Sets .cld s (fun c => { c with p := c.p &&& 0xF7 }) ∧
    Sets .sed s (fun c => { c with p := c.p ||| 0x08 }) ∧
    Sets .clv s (fun c => { c with p := c.p &&& 0xBF }) ∧
    Sets .nop s (fun c => c)

/-- PHA, PHP, PLA and PLP (R530 to R533, R102, R111): from every state. -/
def Obligations.StackInstructionsComplete : Prop :=
  ∀ s : State,
    Does .pha s (fun u => { u with
      cpu := { u.cpu with s := u.cpu.s - 1 }
      bus := { u.bus with ram := u.bus.ram.write (0x100 + u.cpu.s.toNat) u.cpu.a } }) ∧
    Does .php s (fun u => { u with
      cpu := { u.cpu with s := u.cpu.s - 1 }
      bus := { u.bus with ram := u.bus.ram.write (0x100 + u.cpu.s.toNat) (u.cpu.p ||| 0x30) } }) ∧
    Sets .pla s (fun c =>
      let v := (preOf .pla s).bus.ram.read (0x100 + (c.s + 1).toNat)
      { c with s := c.s + 1, a := v, p := withNZ v c.p }) ∧
    Sets .plp s (fun c =>
      let m := (preOf .plp s).bus.ram.read (0x100 + (c.s + 1).toNat)
      { c with s := c.s + 1, p := (m &&& 0xCF) ||| 0x20 })

/-- JMP, JSR and RTS (R701 to R704): the new PC and what is pushed. -/
def Obligations.JumpsComplete : Prop :=
  (∀ (f : Form) (s : State), (Instr.jmp f).wellFormed = true → recordFits (.jmp f) s = true →
    ∃ ea, (recOf (.jmp f) s).operand = .address ea ∧
      exec (.jmp f) s = .next (endsAt ea (preOf (.jmp f) s))) ∧
  (∀ (a : Word) (s : State), recordFits (.jsr a) s = true →
    let u := preOf (.jsr a) s
    let ret := (recOf (.jsr a) s).pc0 + 2
    ∃ ea t, (recOf (.jsr a) s).operand = .address ea ∧ exec (.jsr a) s = .next (endsAt ea t) ∧
      t = { u with
        cpu := { u.cpu with s := u.cpu.s - 2 }
        bus := { u.bus with ram := t.bus.ram } } ∧
      ∀ n, t.bus.ram.read n =
        if n = 0x100 + u.cpu.s.toNat then highByte ret
        else if n = 0x100 + (u.cpu.s - 1).toNat then lowByte ret
        else u.bus.ram.read n) ∧
  (∀ (a : Word) (s : State), s.cpu.inflight = none → (recOf (.jsr a) s).operand = .address a ∧
    (recOf (.jmp (.abs a)) s).operand = .address a) ∧
  ∀ s : State,
    let u := preOf .rts s
    let lo := u.bus.ram.read (0x100 + (u.cpu.s + 1).toNat)
    let hi := u.bus.ram.read (0x100 + (u.cpu.s + 2).toNat)
    exec .rts s = .next (endsAt (word16 lo hi + 1) { u with cpu := { u.cpu with s := u.cpu.s + 2 } })

/-- BRK and RTI (R705, R706, R915): from every state. -/
def Obligations.BrkAndRtiComplete : Prop :=
  ∀ s : State,
    (∃ t, exec .brk s = .next t ∧
      EntersInterrupt ((recOf .brk s).pc0 + 2) ((preOf .brk s).cpu.p ||| 0x30)
        (if (recOf .brk s).hijacked then 0xFFFA else 0xFFFE) (preOf .brk s) t) ∧
    let u := preOf .rti s
    let m := u.bus.ram.read (0x100 + (u.cpu.s + 1).toNat)
    let lo := u.bus.ram.read (0x100 + (u.cpu.s + 2).toNat)
    let hi := u.bus.ram.read (0x100 + (u.cpu.s + 3).toNat)
    exec .rti s = .next (endsAt (word16 lo hi)
      { u with cpu := { u.cpu with s := u.cpu.s + 3, p := (m &&& 0xCF) ||| 0x20 } })

/-- The eight branches (R709 to R717): to the target if the record says taken, past the instruction if
not; fetched at a boundary, the record says taken when the flag says so. -/
def Obligations.BranchesComplete : Prop :=
  ∀ (d : Byte) (s : State) (i : Instr),
    i ∈ [Instr.bpl d, .bmi d, .bvc d, .bvs d, .bcc d, .bcs d, .bne d, .beq d] →
    (recordFits i s = true →
      ∃ target, (recOf i s).operand = .relative target ∧
        exec i s = .next (endsAt (if (recOf i s).taken then target else (recOf i s).pc0 + 2) (preOf i s))) ∧
    (s.cpu.inflight = none →
      let here := s.cpu.pc + 2
      let there := BitVec.ofInt 16 (s.cpu.pc.toNat + 2 + d.toInt)
      exec (.bpl d) s = .next (endsAt (if s.cpu.p.getLsbD 7 then here else there) s) ∧
      exec (.bmi d) s = .next (endsAt (if s.cpu.p.getLsbD 7 then there else here) s) ∧
      exec (.bvc d) s = .next (endsAt (if s.cpu.p.getLsbD 6 then here else there) s) ∧
      exec (.bvs d) s = .next (endsAt (if s.cpu.p.getLsbD 6 then there else here) s) ∧
      exec (.bcc d) s = .next (endsAt (if s.cpu.p.getLsbD 0 then here else there) s) ∧
      exec (.bcs d) s = .next (endsAt (if s.cpu.p.getLsbD 0 then there else here) s) ∧
      exec (.bne d) s = .next (endsAt (if s.cpu.p.getLsbD 1 then here else there) s) ∧
      exec (.beq d) s = .next (endsAt (if s.cpu.p.getLsbD 1 then there else here) s))

/-- The unofficial NOPs (R820): a memory form reads its address once, with the read's side effects; the
others do nothing. -/
def Obligations.UnofficialNopsComplete : Prop :=
  ∀ (op : Byte) (f : Form) (s : State), (Instr.nopAlt op f).wellFormed = true →
    recordFits (.nopAlt op f) s = true →
    (∀ ea, (recOf (.nopAlt op f) s).operand = .address ea →
      Does (.nopAlt op f) s fun u => (memRead ea u).2) ∧
    ((∀ ea, (recOf (.nopAlt op f) s).operand ≠ .address ea) → Does (.nopAlt op f) s fun u => u) ∧
    (f.mode = .imp ∨ f.mode = .imm → ∀ ea, (recOf (.nopAlt op f) s).operand ≠ .address ea)

/-- JAM (R860): the CPU halts and PC stays at the opcode. -/
def Obligations.JamHalts : Prop :=
  ∀ (op : Byte) (s : State), exec (.jam op) s =
    .next (endsAt (recOf (.jam op) s).pc0
      { preOf (.jam op) s with cpu := { (preOf (.jam op) s).cpu with halted := true } })

/-- R840 to R845, R401: the set U opcodes are refused at fetch, in the state after the read of the opcode,
and no completion gives them a meaning. That the refusal carries its state is the model's choice (log
entry 11). -/
def Obligations.UnstableOpcodesRefused : Prop :=
  (∀ s : State, s.cpu.intReq = none →
    (memRead s.cpu.pc s).1 ∈ [(0x8B : Byte), 0xAB, 0x93, 0x9F, 0x9E, 0x9C, 0x9B] →
    let b := memRead s.cpu.pc s
    fetch s = .refused (.unstableOpcode b.1 { b.2 with refused := some (.unstableOpcode b.1) })) ∧
  ∀ (s : State) (b z : Byte) (a : Word),
    let mark := fun op : Byte => { s with refused := some (.unstableOpcode op) }
    exec (.xaa b) s = .refused (.unstableOpcode 0x8B (mark 0x8B)) ∧
    exec (.lxa b) s = .refused (.unstableOpcode 0xAB (mark 0xAB)) ∧
    exec (.sha (.izy z)) s = .refused (.unstableOpcode 0x93 (mark 0x93)) ∧
    exec (.sha (.aby a)) s = .refused (.unstableOpcode 0x9F (mark 0x9F)) ∧
    exec (.shx a) s = .refused (.unstableOpcode 0x9E (mark 0x9E)) ∧
    exec (.shy a) s = .refused (.unstableOpcode 0x9C (mark 0x9C)) ∧
    exec (.tas a) s = .refused (.unstableOpcode 0x9B (mark 0x9B))

/-! ## What each instruction leaves unchanged -/

/-- R101: which instructions write A, X, Y and S. -/
def Obligations.RegisterFrame : Prop :=
  ∀ (i : Instr) (s t : State), i.wellFormed = true → recordFits i s = true → exec i s = .next t →
    (writesA i = false → t.cpu.a = s.cpu.a) ∧ (writesX i = false → t.cpu.x = s.cpu.x) ∧
    (writesY i = false → t.cpu.y = s.cpu.y) ∧ (writesS i = false → t.cpu.s = s.cpu.s)

/-- R110: which instructions write each flag; bits 5 and 4 change in none but PLP and RTI, which leave
them 1 and 0. -/
def Obligations.FlagFrame : Prop :=
  ∀ (i : Instr) (s t : State), i.wellFormed = true → recordFits i s = true → exec i s = .next t →
    (writesNZ i = false → t.cpu.p.getLsbD 7 = s.cpu.p.getLsbD 7 ∧ t.cpu.p.getLsbD 1 = s.cpu.p.getLsbD 1) ∧
    (writesV i = false → t.cpu.p.getLsbD 6 = s.cpu.p.getLsbD 6) ∧
    (writesD i = false → t.cpu.p.getLsbD 3 = s.cpu.p.getLsbD 3) ∧
    (writesI i = false → t.cpu.p.getLsbD 2 = s.cpu.p.getLsbD 2) ∧
    (writesC i = false → t.cpu.p.getLsbD 0 = s.cpu.p.getLsbD 0) ∧
    (i ≠ .plp ∧ i ≠ .rti → t.cpu.p.getLsbD 5 = s.cpu.p.getLsbD 5 ∧ t.cpu.p.getLsbD 4 = s.cpu.p.getLsbD 4) ∧
    (i = .plp ∨ i = .rti → t.cpu.p.getLsbD 5 = true ∧ t.cpu.p.getLsbD 4 = false)

/-- Every byte of memory reads as before an instruction, except: the bytes it pushes; for a storing
instruction with an address, the bytes a write of that address stores to, in the state in which its
write lands. -/
def Obligations.InstructionMemoryFrame : Prop :=
  ∀ (i : Instr) (s t : State), i.wellFormed = true → recordFits i s = true → exec i s = .next t →
    (writesMemory i = false → pushes i = false → SameMemory s t) ∧
    (pushes i = true →
      (∀ n, n ≠ 0x100 + s.cpu.s.toNat →
        ((∃ a, i = .jsr a) ∨ i = .brk → n ≠ 0x100 + (s.cpu.s - 1).toNat) →
        (i = .brk → n ≠ 0x100 + (s.cpu.s - 2).toNat) → t.bus.ram.read n = s.bus.ram.read n) ∧
      SameMemory { s with bus := { s.bus with ram := t.bus.ram } } t) ∧
    (writesMemory i = true →
      SameMemory s (storeState i s) ∧
      (∀ a, (recOf i s).operand = .address a → OnlyStoredAt a (storeState i s) t) ∧
      ((∀ a, (recOf i s).operand ≠ .address a) → SameMemory s t))

/-- No instruction moves time, the frame count, the PPU's position, the stall, the edge detector, the
host's fields, the marks or the cartridge images; only JAM halts; nothing is left in flight. -/
def Obligations.HiddenStateFrame : Prop :=
  ∀ (i : Instr) (s t : State), exec i s = .next t →
    t.t = s.t ∧ t.frames = s.frames ∧ t.host = s.host ∧ t.fault = s.fault ∧ t.refused = s.refused ∧
    t.cpu.dmcStall = s.cpu.dmcStall ∧ t.cpu.nmiPrev = s.cpu.nmiPrev ∧ t.cpu.inflight = none ∧
    ((∀ op, i ≠ .jam op) → t.cpu.halted = s.cpu.halted) ∧
    t.ppu.line = s.ppu.line ∧ t.ppu.dot = s.ppu.dot ∧ t.ppu.frame = s.ppu.frame ∧
    t.ppu.fb = s.ppu.fb ∧ t.cart.prg = s.cart.prg ∧ t.cart.prgLen = s.cart.prgLen ∧
    t.cart.chr = s.cart.chr ∧ t.cart.chrLen = s.cart.chrLen ∧ t.cart.mirrorFlag = s.cart.mirrorFlag

/-- R1501: the rest of a cycle leaves the CPU's registers and record alone: it can only set the NMI
latch, follow the NMI output and add a DMC stall; T advances by one. The DMC's addresses are in
program space, as the invariant says. -/
def Obligations.DevicesLeaveCpu : Prop :=
  ∀ s : State, apuInRange s = true → ∃ (np nv : Bool) (k : Nat),
    (afterCpu s).cpu = { s.cpu with nmiPending := np, nmiPrev := nv, dmcStall := k } ∧
    (s.cpu.nmiPending = true → np = true) ∧ (k = s.cpu.dmcStall ∨ k = s.cpu.dmcStall + 4) ∧
    (afterCpu s).t = s.t + 1 ∧ (afterCpu s).fault = s.fault ∧ (afterCpu s).refused = s.refused ∧
    (∀ n, (afterCpu s).bus.ram.read n = s.bus.ram.read n) ∧
    (∀ n, (afterCpu s).cart.prgRam.read n = s.cart.prgRam.read n)

/-! ## The PPU -/

/-- R1031, R1013: reading $2002; R1032: $2004; R1033: $2007, buffered below the palette and not in it; R1050:
where vblank is set and the flags are cleared. -/
def Obligations.PpuReadsAndVblank : Prop :=
  (∀ s : State,
    let early := s.ppu.line = 241 ∧ s.ppu.dot = 1
    let late := s.ppu.line = 241 ∧ (s.ppu.dot = 2 ∨ s.ppu.dot = 3)
    (statusRead s).1 = (if s.ppu.vblank then 0x80 else 0) + (if s.ppu.s0hit then 0x40 else 0) +
      (if s.ppu.overflow then 0x20 else 0) + (s.bus.ppuLatch &&& 0x1F) ∧
    (statusRead s).2.ppu = { s.ppu with
      vblank := false, w := false, suppressVbl := if early then true else s.ppu.suppressVbl } ∧
    (¬ late → (statusRead s).2.cpu = s.cpu) ∧
    (late → (statusRead s).2.cpu = { s.cpu with
      nmiPending := false
      intReq := if s.cpu.intReq = some .nmi then none else s.cpu.intReq })) ∧
  (∀ s : State,
    let b := s.ppu.oam.read s.ppu.oamaddr.toNat
    ppuRegRead 4 s = latchPpu (if s.ppu.oamaddr.toNat % 4 = 2 then b &&& 0xE3 else b, s)) ∧
  (∀ s : State,
    let a := vramAddress s
    let inc := fun u : State => { u with ppu := { u.ppu with
      v := BitVec.ofNat 15 ((s.ppu.v.toNat + (if s.ppu.ctrl.getLsbD 2 then 32 else 1)) % 32768) } }
    let fill := fun r : Byte × State => inc { r.2 with ppu := { r.2.ppu with rdbuf := r.1 } }
    (a.toNat < 0x3F00 → ppuRegRead 7 s = latchPpu (s.ppu.rdbuf, fill (ppuRead a s))) ∧
    (0x3F00 ≤ a.toNat →
      let e := palRead s.ppu.pal (palIndex a)
      let shown := if s.ppu.mask.getLsbD 0 then e &&& 0x30 else e
      ppuRegRead 7 s =
        latchPpu ((s.bus.ppuLatch &&& 0xC0) ||| shown.setWidth 8, fill (ppuRead (a - 0x1000) s)))) ∧
  ∀ p : Ppu,
    dotHead 241 1 p = { p with vblank := if p.suppressVbl then p.vblank else true, suppressVbl := false } ∧
    dotHead 261 1 p = { p with vblank := false, s0hit := false, overflow := false } ∧
    ∀ l d, ¬ (l = 241 ∧ d = 1) → ¬ (l = 261 ∧ d = 1) →
      (dotHead l d p).vblank = p.vblank ∧ (dotHead l d p).s0hit = p.s0hit

/-- R1020 to R1026, R1028, R1091: which write a register number is, and the fields of ctrl, t, v, x and w
that it sets, and those it leaves. -/
def Obligations.PpuRegisterWrites : Prop :=
  ∀ (d : Byte) (s : State) (p : Ppu),
    (ppuRegWrite 1 d s = .ok { s with ppu := { s.ppu with mask := d } } ∧ ppuRegWrite 2 d s = .ok s ∧
      ppuRegWrite 3 d s = .ok { s with ppu := { s.ppu with oamaddr := d } } ∧
      ppuRegWrite 4 d s = .ok { s with ppu := { s.ppu with
        oam := s.ppu.oam.write s.ppu.oamaddr.toNat d, oamaddr := s.ppu.oamaddr + 1 } } ∧
      ppuRegWrite 5 d s = .ok { s with ppu := writeScroll d s.ppu } ∧
      ppuRegWrite 6 d s = .ok { s with ppu := writeVramAddr d s.ppu }) ∧
    (let withdrawn := s.ppu.ctrl.getLsbD 7 = true ∧ d.getLsbD 7 = false ∧ s.ppu.line = 241 ∧
        (s.ppu.dot = 2 ∨ s.ppu.dot = 3)
      ∃ t : BitVec 15, t &&& 0x73FF = s.ppu.t &&& 0x73FF ∧ (t >>> 10).toNat % 4 = d.toNat % 4 ∧
        (withdrawn → ppuRegWrite 0 d s = .ok { s with
          ppu := { s.ppu with ctrl := d, t := t }
          cpu := { s.cpu with
            nmiPending := false
            intReq := if s.cpu.intReq = some .nmi then none else s.cpu.intReq } }) ∧
        (¬ withdrawn → ppuRegWrite 0 d s = .ok { s with ppu := { s.ppu with ctrl := d, t := t } })) ∧
    (p.w = false →
      writeScroll d p = { p with t := (writeScroll d p).t, x := d.setWidth 3, w := true } ∧
      (writeScroll d p).t &&& 0x7FE0 = p.t &&& 0x7FE0 ∧
      (writeScroll d p).t.toNat % 32 = d.toNat / 8 ∧
      writeVramAddr d p = { p with t := (writeVramAddr d p).t, w := true } ∧
      (writeVramAddr d p).t.toNat = d.toNat % 64 * 256 + p.t.toNat % 256) ∧
    (p.w = true →
      writeScroll d p = { p with t := (writeScroll d p).t, w := false } ∧
      (writeScroll d p).t &&& 0x0C1F = p.t &&& 0x0C1F ∧
      (writeScroll d p).t.toNat / 4096 = d.toNat % 8 ∧
      (writeScroll d p).t.toNat / 32 % 32 = d.toNat / 8 ∧
      writeVramAddr d p = { p with t := (writeVramAddr d p).t, v := (writeVramAddr d p).t, w := false } ∧
      (writeVramAddr d p).t.toNat = p.t.toNat / 256 * 256 + d.toNat ∧
      (writeVramAddr d p).v = (writeVramAddr d p).t) ∧
    (vramIncrement p).v.toNat = (p.v.toNat + (if p.ctrl.getLsbD 2 then 32 else 1)) % 32768

/-- R231, R232: the nametable and palette index functions, over the whole address range. -/
def Obligations.MirrorIndexes : Prop :=
  (∀ a : BitVec 14, 0x2000 ≤ a.toNat → a.toNat ≤ 0x3EFF →
    let n := a.toNat / 1024 % 4
    let off := a.toNat % 1024
    ntIndex .horizontal a = (if n = 0 ∨ n = 1 then 0 else 1) * 1024 + off ∧
    ntIndex .vertical a = (if n = 0 ∨ n = 2 then 0 else 1) * 1024 + off ∧
    ntIndex .singleLower a = off ∧ ntIndex .singleUpper a = 1024 + off) ∧
  ∀ a : BitVec 14,
    palIndex a =
      if a.toNat % 32 ∈ [16, 20, 24, 28] then a.toNat % 32 - 16 else a.toNat % 32

/-- R1060: sprite evaluation selects the first eight sprites in range, in OAM order, and sets overflow
exactly when there are more. -/
def Obligations.SpriteEvaluation : Prop :=
  ∀ (l : Nat) (p : Ppu),
    let h := if p.ctrl.getLsbD 5 then 16 else 8
    let y := fun i => (p.oam.read (4 * i)).toNat
    let hits := (List.range 64).filter fun i => decide (y i ≤ l) && decide (l - y i < h)
    (p.mask.getLsbD 3 = false ∧ p.mask.getLsbD 4 = false → spriteEval l p = { p with eval := [] }) ∧
    (p.mask.getLsbD 3 = true ∨ p.mask.getLsbD 4 = true →
      spriteEval l p = { p with
        eval := (hits.take 8).map fun i =>
          { index := i, tile := p.oam.read (4 * i + 1), attr := p.oam.read (4 * i + 2)
            x := p.oam.read (4 * i + 3), row := l - y i }
        overflow := p.overflow || decide (8 < hits.length) })

/-- R1002, R1003, R1045, R1281: the position goes round the grid of 262 lines of 341 dots, one dot at a time,
but for the dot skipped at the end of an odd frame with rendering on; a frame completes exactly when
it comes round. That what the sink is handed stands in `host.sink` is the model's choice (log entry
16). -/
def Obligations.PositionAdvances : Prop :=
  ∀ s : State, s.ppu.line < 262 → s.ppu.dot < 341 →
    let t := advance s
    let skip := s.ppu.line = 261 ∧ s.ppu.dot = 339 ∧ s.ppu.frame % 2 = 1 ∧
      (s.ppu.mask.getLsbD 3 = true ∨ s.ppu.mask.getLsbD 4 = true)
    let next := if skip then 0 else (s.ppu.line * 341 + s.ppu.dot + 1) % 89342
    t.ppu.line * 341 + t.ppu.dot = next ∧ t.ppu.line < 262 ∧ t.ppu.dot < 341 ∧
    (next ≠ 0 → t.frames = s.frames ∧ t.ppu.frame = s.ppu.frame ∧ t.host = s.host ∧ t.apu = s.apu) ∧
    (next = 0 → t.frames = s.frames + 1 ∧ t.ppu.frame = s.ppu.frame + 1 ∧
      t.host.sink = some ⟨s.ppu.fb, s.apu.mix.audio⟩ ∧ t.apu.mix.audio = [])

/-! ## The APU -/

/-- R1230, R1229: reading and writing $4015. -/
def Obligations.ApuStatusAndEnable : Prop :=
  ∀ (s : State) (d : Byte) (u : Apu),
    (let v := (apuStatusRead s).1;
      v.getLsbD 7 = s.apu.dmc.irqFlag ∧ v.getLsbD 6 = s.apu.seq.frameIrq ∧
      v.getLsbD 5 = s.bus.apuLatch.getLsbD 5 ∧
      v.getLsbD 4 = decide (s.apu.dmc.bytesRemaining ≠ 0) ∧
      v.getLsbD 3 = decide (s.apu.noise.length ≠ 0) ∧ v.getLsbD 2 = decide (s.apu.tri.length ≠ 0) ∧
      v.getLsbD 1 = decide (s.apu.p2.length ≠ 0) ∧ v.getLsbD 0 = decide (s.apu.p1.length ≠ 0)) ∧
    (apuStatusRead s).2 = { s with
      apu := { s.apu with seq := { s.apu.seq with frameIrq := false } }
      bus := { s.bus with apuLatch := (apuStatusRead s).1 } } ∧
    (let w := writeChannelEnable d u;
      w.p1.enabled = d.getLsbD 0 ∧ w.p2.enabled = d.getLsbD 1 ∧ w.tri.enabled = d.getLsbD 2 ∧
      w.noise.enabled = d.getLsbD 3 ∧
      w.p1.length = (if d.getLsbD 0 then u.p1.length else 0) ∧
      w.p2.length = (if d.getLsbD 1 then u.p2.length else 0) ∧
      w.tri.length = (if d.getLsbD 2 then u.tri.length else 0) ∧
      w.noise.length = (if d.getLsbD 3 then u.noise.length else 0) ∧
      w.dmc.irqFlag = false ∧
      (d.getLsbD 4 = false → w.dmc.bytesRemaining = 0) ∧
      (d.getLsbD 4 = true → u.dmc.bytesRemaining ≠ 0 →
        w.dmc.bytesRemaining = u.dmc.bytesRemaining ∧ w.dmc.curAddr = u.dmc.curAddr) ∧
      (d.getLsbD 4 = true → u.dmc.bytesRemaining = 0 →
        w.dmc.bytesRemaining = u.dmc.sampleLen ∧ w.dmc.curAddr = u.dmc.sampleAddr))

/-- R1276: the DMC memory reader. -/
def Obligations.DmcReaderFetches : Prop :=
  ∀ s : State,
    (s.apu.dmc.buffer ≠ none ∨ s.apu.dmc.bytesRemaining = 0 → dmcReader s = s) ∧
    (s.apu.dmc.buffer = none → s.apu.dmc.bytesRemaining ≠ 0 → 0x8000 ≤ s.apu.dmc.curAddr.toNat →
      let c := s.apu.dmc
      let last := c.bytesRemaining = 1
      dmcReader s = { s with
        cpu := { s.cpu with dmcStall := s.cpu.dmcStall + 4 }
        apu := { s.apu with dmc := { c with
          buffer := some (s.cart.cpuRead c.curAddr.toNat)
          curAddr := if last ∧ c.loop = true then c.sampleAddr
            else if c.curAddr = 0xFFFF then 0x8000 else c.curAddr + 1
          bytesRemaining := if last ∧ c.loop = true then c.sampleLen else c.bytesRemaining - 1
          irqFlag := if last ∧ c.loop = false ∧ c.irqEnable = true then true else c.irqFlag } } })

/-- R1241, R1242, R1243, R1250: in the four-step mode, with no reset pending and the counter started at
0, the counter is `k` after `k` steps up to 29829 and the frame interrupt is still clear after 29827;
a half clock counts every length down by one unless it is 0 or halted. -/
def Obligations.FrameSequencerCounts : Prop :=
  (∀ (u : Apu) (k : Nat), u.seq.resetDelay = none → u.seq.fc = 0 → u.seq.mode = false → k ≤ 29829 →
    ((frameSeqStep^[k]) u).seq.fc = k ∧
    (k ≤ 29827 → ((frameSeqStep^[k]) u).seq.frameIrq = u.seq.frameIrq) ∧
    (29828 ≤ k → ((frameSeqStep^[k]) u).seq.frameIrq = (u.seq.frameIrq || !u.seq.inhibit))) ∧
  ∀ u : Apu,
    (halfClock u).p1.length.toNat = u.p1.length.toNat - (if u.p1.halt then 0 else 1) ∧
    (halfClock u).p2.length.toNat = u.p2.length.toNat - (if u.p2.halt then 0 else 1) ∧
    (halfClock u).tri.length.toNat = u.tri.length.toNat - (if u.tri.control then 0 else 1) ∧
    (halfClock u).noise.length.toNat = u.noise.length.toNat - (if u.noise.halt then 0 else 1)

/-! ## The controllers -/

/-- R1510, R1511: after a strobe, the reads of a port give the buttons in order, then ones. -/
def Obligations.ControllerShiftsOut : Prop :=
  ∀ (d1 d0 : Byte) (s s1 s2 : State), d1.getLsbD 0 = true → d0.getLsbD 0 = false →
    memWrite 0x4016 d1 s = .ok s1 → memWrite 0x4016 d0 s1 = .ok s2 →
    (∀ n, (memRead 0x4016 (afterReads 0x4016 n s1)).1 = 0x40 ||| (s.host.buttons1 &&& 1)) ∧
    (∀ n, (memRead 0x4016 (afterReads 0x4016 n s2)).1 =
      0x40 ||| (if n < 8 then (s.host.buttons1 >>> n) &&& 1 else 1)) ∧
    ∀ n, (memRead 0x4017 (afterReads 0x4017 n s2)).1 =
      0x40 ||| (if n < 8 then (s.host.buttons2 >>> n) &&& 1 else 1)

/-! ## The mappers -/

/-- R1405: a bank number wraps modulo the number of banks, so that every program and graphics address
falls inside the images the loader accepts. On AxROM, that an image with a part of a window left over
has as many banks as whole windows, and that one with no whole window is left out here (its byte is a
free value), are the model's choices (log entries 20 and 15), and so is which offset an NROM or CNROM
image above 32 KiB has (log entry 21). -/
def Obligations.BanksWrap : Prop :=
  (∀ req size len : Nat, bankOf req size len = req % (len / size)) ∧
  (∀ (c : Cart) (a : Nat), 0 < c.prgLen → c.prgLen % 16384 = 0 → c.hasPrgBank = true →
    c.prgOffset a < c.prgLen) ∧
  ∀ (c : Cart) (a : Nat), c.chrLen % 8192 = 0 → a < 8192 → c.chrOffset a < c.chrSize

/-- R1420: five writes, each to an address of its own, load the register the fifth one's address selects,
bit 0 first; a write with bit 7 resets the port. R1456: the scanline counter's law, rise by rise. -/
def Obligations.MapperRegisters : Prop :=
  (∀ (m : Mmc1) (a0 a1 a2 a3 a : Nat) (d0 d1 d2 d3 d4 : Byte), m.shift = 0x10 →
    (∀ d ∈ [d0, d1, d2, d3, d4], d.getLsbD 7 = false) →
    let r := mmc1After [(a0, d0), (a1, d1), (a2, d2), (a3, d3), (a, d4)] m
    let w : BitVec 5 := BitVec.ofBool (d4.getLsbD 0) ++ BitVec.ofBool (d3.getLsbD 0) ++
      BitVec.ofBool (d2.getLsbD 0) ++ BitVec.ofBool (d1.getLsbD 0) ++ BitVec.ofBool (d0.getLsbD 0)
    (a / 8192 % 4 = 0 → r = { m with control := w }) ∧ (a / 8192 % 4 = 1 → r = { m with chr0 := w }) ∧
    (a / 8192 % 4 = 2 → r = { m with chr1 := w }) ∧ (a / 8192 % 4 = 3 → r = { m with prg := w })) ∧
  (∀ (m : Mmc1) (a : Nat) (d : Byte), d.getLsbD 7 = true →
    m.write a d = { m with shift := 0x10, control := m.control ||| 0x0C }) ∧
  ∀ (m : Mmc3) (k : Nat), m.irqCounter = 0 → m.irqEnabled = true → m.irqPending = false →
    1 ≤ k → k ≤ m.irqLatch.toNat + 1 →
    (mmc3After k m).irqCounter.toNat = m.irqLatch.toNat + 1 - k ∧
    ((mmc3After k m).irqPending = true ↔ k = m.irqLatch.toNat + 1)

/-! ## The whole machine -/

/-- Every step keeps every memory in canonical form: rising indices below the memory's size, nothing
listed that an unlisted entry reads as. The form, and how many cycles a step is, are the model's choice
(log entries 2 and 1). -/
def Obligations.MemoriesStayCanonical : Prop :=
  ∀ s t : State, s.memWf = true → step s = .next t → t.memWf = true

/-- Every step keeps P[5] = 1 and P[4] = 0, a sound record in flight, and the PPU's, APU's and
controllers' fields in their ranges. How many cycles a step is is the model's choice (log entry 1). -/
def Obligations.InvariantKept : Prop :=
  ∀ s t : State, s.Inv → step s = .next t → t.Inv

/-- R15, R16, R124, R1501: from a state with the invariant no step ends in `InternalDecode`, and one that
starts unmarked ends, if not in a next state, in `RomWrite` or in the refusal of a set U opcode, its
state carrying that mark alone; a stop of the CPU's step ends the cycle in the state it stopped in,
with no dot, no APU step and no count of T; and a marked state takes no further cycle. That a stop carries
its state, and how many cycles a step is, are the model's choice (log entries 11 and 1). -/
def Obligations.OnlyTheSpecsStops : Prop :=
  (∀ s : State, s.Inv → s.fault = none → s.refused = none →
    (∃ t, step s = .next t ∧ t.fault = none ∧ t.refused = none) ∨
    (∃ t, step s = .fault (.romWrite t) ∧ t.fault = some .romWrite ∧ t.refused = none) ∨
    ∃ op t, (opRow op).cls = .unstable ∧ step s = .refused (.unstableOpcode op t) ∧
      t.fault = none ∧ t.refused = some (.unstableOpcode op)) ∧
  (∀ s t : State, s.fault = none → s.refused = none →
    (cpuStep s = .fault (.romWrite t) → cycle s = .fault (.romWrite t) ∧ cycleState s = t) ∧
    ∀ op, cpuStep s = .refused (.unstableOpcode op t) →
      cycle s = .refused (.unstableOpcode op t) ∧ cycleState s = t) ∧
  ∀ (n : Nat) (s : State), s.fault ≠ none ∨ s.refused ≠ none → runCycles n s = s
end

