-- ==== Sys2Proof/Laws/Bits.lean ====
section
/-! SUPPORT. Laws/Bits.lean: the bits of P after each flag operation, and the flag operations in the
terms of Safety.lean. -/

namespace Sys2Proof.Machine

/-- The value of a 16-bit word made of two bytes (R220). -/
theorem word16_to_nat (lo hi : Byte) : (word16 lo hi).toNat = 256 * hi.toNat + lo.toNat := by
  have h := lo.isLt
  unfold word16
  rw [BitVec.toNat_append, ← Nat.shiftLeft_add_eq_or_of_lt h, Nat.shiftLeft_eq]
  omega

/-- The low byte of such a word. -/
@[simp] theorem low_byte_word16 (lo hi : Byte) : lowByte (word16 lo hi) = lo := by
  apply BitVec.eq_of_toNat_eq
  have := lo.isLt
  rw [lowByte, BitVec.toNat_setWidth, word16_to_nat]
  omega

/-- The high byte of such a word. -/
@[simp] theorem high_byte_word16 (lo hi : Byte) : highByte (word16 lo hi) = hi := by
  apply BitVec.eq_of_toNat_eq
  have := lo.isLt
  have := hi.isLt
  rw [highByte, BitVec.toNat_setWidth, BitVec.toNat_ushiftRight, word16_to_nat, Nat.shiftRight_eq_div_pow]
  omega

/-- A word is made of its bytes. -/
@[simp] theorem word16_of_bytes (w : Word) : word16 (lowByte w) (highByte w) = w := by
  apply BitVec.eq_of_toNat_eq
  have := w.isLt
  rw [word16_to_nat, lowByte, highByte, BitVec.toNat_setWidth, BitVec.toNat_setWidth,
    BitVec.toNat_ushiftRight, Nat.shiftRight_eq_div_pow]
  omega

/-- Setting one bit of a byte, as an and with the others and an or of the new one. -/
theorem set_bit_masks (b : Bool) (p : Byte) :
    setBit 7 b p = (p &&& 0x7F) ||| (if b then 0x80 else 0) ∧
    setBit 6 b p = (p &&& 0xBF) ||| (if b then 0x40 else 0) ∧
    setBit 3 b p = (p &&& 0xF7) ||| (if b then 0x08 else 0) ∧
    setBit 2 b p = (p &&& 0xFB) ||| (if b then 0x04 else 0) ∧
    setBit 1 b p = (p &&& 0xFD) ||| (if b then 0x02 else 0) ∧
    setBit 0 b p = (p &&& 0xFE) ||| (if b then 0x01 else 0) := by
  cases b <;> exact ⟨rfl, rfl, rfl, rfl, rfl, rfl⟩

/-- Bit 7 of a byte, alone. -/
theorem and_80 (v : Byte) : v &&& 0x80 = if v.getLsbD 7 then 0x80 else 0 := by
  revert v; decide +kernel

/-- `setNZ` is `withNZ` on P. -/
theorem set_nz_p (v : Byte) (c : Cpu) : (setNZ v c).p = withNZ v c.p := by
  have h : ∀ (n z : Bool) (p : Byte),
      setBit 1 z (setBit 7 n p) = (p &&& 0x7D) ||| (if n then 0x80 else 0) ||| (if z then 0x02 else 0) := by
    decide +kernel
  show setBit 1 (v == 0) (setBit 7 (v.getLsbD 7) c.p) = _
  rw [h, withNZ, and_80]
  by_cases hv : v = 0 <;> simp [hv]

/-- The CPU after `setNZ`. -/
theorem set_nz_eq (v : Byte) (c : Cpu) : setNZ v c = { c with p := withNZ v c.p } := by
  rw [← set_nz_p]; rfl

/-- N after `setNZ`. -/
@[simp] theorem set_nz_flag_n (v : Byte) (c : Cpu) : (setNZ v c).flagN = v.getLsbD 7 := by
  have h : ∀ (n z : Bool) (p : Byte), (setBit 1 z (setBit 7 n p)).getLsbD 7 = n := by decide +kernel
  exact h _ _ _

/-- Z after `setNZ`. -/
@[simp] theorem set_nz_flag_z (v : Byte) (c : Cpu) : (setNZ v c).flagZ = (v == 0) := by
  have h : ∀ (n z : Bool) (p : Byte), (setBit 1 z (setBit 7 n p)).getLsbD 1 = z := by decide +kernel
  exact h _ _ _

end Sys2Proof.Machine
end

