-- ==== Sys2Proof/Laws/Mem.lean ====
section
/-! SUPPORT. Laws/Mem.lean: the laws of a sparse store: a read after a write, and the canonical form,
which every memory operation keeps. -/

namespace Sys2Proof.Machine

section Sparse

variable {α : Type}

/-- A read after an erasure. -/
theorem sparse_get_erase (d : α) (m : Sparse α) (i j : Nat) :
    Sparse.get d (Sparse.erase m i) j = if j = i then d else Sparse.get d m j := by
  induction m with
  | nil => simp [Sparse.erase, Sparse.get]
  | cons e rest ih =>
    obtain ⟨k, v⟩ := e
    by_cases hik : i = k
    · subst hik
      simp only [Sparse.erase, if_true, ih, Sparse.get]
      by_cases hj : j = i <;> simp [hj]
    · simp only [Sparse.erase, if_neg hik, Sparse.get, ih]
      by_cases hj : j = k
      · subst hj; simp [Ne.symm hik]
      · simp [hj]

/-- A read after an insertion. -/
theorem sparse_get_insert (d : α) (m : Sparse α) (i j : Nat) (v : α) :
    Sparse.get d (Sparse.insert m i v) j = if j = i then v else Sparse.get d m j := by
  induction m with
  | nil => simp [Sparse.insert, Sparse.get]
  | cons e rest ih =>
    obtain ⟨k, w⟩ := e
    by_cases hik : i = k
    · subst hik
      simp only [Sparse.insert, if_true, Sparse.get]
      by_cases hj : j = i <;> simp [hj]
    · by_cases hlt : i < k
      · simp only [Sparse.insert, if_neg hik, if_pos hlt, Sparse.get]
      · simp only [Sparse.insert, if_neg hik, if_neg hlt, Sparse.get, ih]
        by_cases hj : j = k
        · subst hj; simp [Ne.symm hik]
        · simp [hj]

variable [DecidableEq α]

/-- A read after a write: the value written at that index, what was there elsewhere. -/
theorem sparse_get_set (d : α) (m : Sparse α) (i j : Nat) (v : α) :
    Sparse.get d (Sparse.set d m i v) j = if j = i then v else Sparse.get d m j := by
  unfold Sparse.set
  by_cases hv : v = d
  · subst hv
    rw [if_pos rfl, sparse_get_erase]
  · rw [if_neg hv, sparse_get_insert]

/-- A form canonical from a higher index is canonical from a lower one. -/
theorem sparse_wf_mono (d : α) (hi lo lo' : Nat) (m : Sparse α) (h : lo' ≤ lo)
    (hm : Sparse.wf d hi lo m = true) : Sparse.wf d hi lo' m = true := by
  cases m with
  | nil => rfl
  | cons e rest =>
    simp only [Sparse.wf, Bool.and_eq_true, decide_eq_true_eq] at hm ⊢
    exact ⟨⟨⟨by omega, hm.1.1.2⟩, hm.1.2⟩, hm.2⟩

/-- An erasure keeps the canonical form. -/
theorem sparse_wf_erase (d : α) (hi : Nat) (m : Sparse α) (i lo : Nat)
    (hm : Sparse.wf d hi lo m = true) : Sparse.wf d hi lo (Sparse.erase m i) = true := by
  induction m generalizing lo with
  | nil => rfl
  | cons e rest ih =>
    have h := hm
    simp only [Sparse.wf, Bool.and_eq_true, decide_eq_true_eq] at h
    obtain ⟨⟨⟨h1, h2⟩, h3⟩, h4⟩ := h
    by_cases hik : i = e.1
    · simp only [Sparse.erase, if_pos hik]
      exact sparse_wf_mono d hi (e.1 + 1) lo _ (by omega) (ih _ h4)
    · simp only [Sparse.erase, if_neg hik, Sparse.wf, Bool.and_eq_true, decide_eq_true_eq]
      exact ⟨⟨⟨h1, h2⟩, h3⟩, ih _ h4⟩

/-- An insertion of a value that is not the unlisted one, at an index in range, keeps it. -/
theorem sparse_wf_insert (d : α) (hi : Nat) (m : Sparse α) (i lo : Nat) (v : α) (hv : v ≠ d)
    (hlo : lo ≤ i) (hhi : i < hi) (hm : Sparse.wf d hi lo m = true) :
    Sparse.wf d hi lo (Sparse.insert m i v) = true := by
  induction m generalizing lo with
  | nil => simp [Sparse.insert, Sparse.wf, hv, hlo, hhi]
  | cons e rest ih =>
    have h := hm
    simp only [Sparse.wf, Bool.and_eq_true, decide_eq_true_eq] at h
    obtain ⟨⟨⟨h1, h2⟩, h3⟩, h4⟩ := h
    by_cases hik : i = e.1
    · simp only [Sparse.insert, if_pos hik, Sparse.wf, Bool.and_eq_true, decide_eq_true_eq]
      exact ⟨⟨⟨h1, h2⟩, hv⟩, h4⟩
    · by_cases hlt : i < e.1
      · simp only [Sparse.insert, if_neg hik, if_pos hlt, Sparse.wf, Bool.and_eq_true,
          decide_eq_true_eq]
        exact ⟨⟨⟨hlo, hhi⟩, hv⟩, ⟨⟨by omega, h2⟩, h3⟩, h4⟩
      · simp only [Sparse.insert, if_neg hik, if_neg hlt, Sparse.wf, Bool.and_eq_true,
          decide_eq_true_eq]
        exact ⟨⟨⟨h1, h2⟩, h3⟩, ih _ (by omega) h4⟩

/-- A write at an index in range keeps the canonical form. -/
theorem sparse_wf_set (d : α) (hi : Nat) (m : Sparse α) (i : Nat) (v : α) (hhi : i < hi)
    (hm : Sparse.wf d hi 0 m = true) : Sparse.wf d hi 0 (Sparse.set d m i v) = true := by
  unfold Sparse.set
  by_cases hv : v = d
  · simpa only [if_pos hv] using sparse_wf_erase d hi m i 0 hm
  · simpa only [if_neg hv] using sparse_wf_insert d hi m i 0 v hv (by omega) hhi hm

end Sparse

/-- A byte read after a byte written. -/
theorem mem_read_write (m : Mem) (i j : Nat) (v : Byte) :
    (m.write i v).read j = if j = i then v else m.read j := sparse_get_set _ m i j v

/-- The byte just written reads back. -/
@[simp] theorem mem_read_write_same (m : Mem) (i : Nat) (v : Byte) : (m.write i v).read i = v := by
  simp [mem_read_write]

/-- A write leaves every other byte alone. -/
theorem mem_read_write_other (m : Mem) (i j : Nat) (v : Byte) (h : j ≠ i) :
    (m.write i v).read j = m.read j := by simp [mem_read_write, h]

/-- A byte write in range keeps the canonical form. -/
theorem mem_wf_write (size : Nat) (m : Mem) (i : Nat) (v : Byte) (hi : i < size)
    (hm : m.wf size = true) : (m.write i v).wf size = true := sparse_wf_set _ size m i v hi hm

/-- A palette entry read after one written. -/
theorem pal_read_write (m : Sparse (BitVec 6)) (i j : Nat) (v : BitVec 6) :
    palRead (palWrite m i v) j = if j = i then v else palRead m j := sparse_get_set _ m i j v

/-- A palette write in range keeps the canonical form. -/
theorem pal_wf_write (m : Sparse (BitVec 6)) (i : Nat) (v : BitVec 6) (hi : i < 32)
    (hm : Sparse.wf (0 : BitVec 6) 32 0 m = true) :
    Sparse.wf (0 : BitVec 6) 32 0 (palWrite m i v) = true := sparse_wf_set _ 32 m i v hi hm

/-- A pixel read after one set. -/
theorem picture_get_set (p : Picture) (l x l' x' : Nat) (v : Pixel) :
    (p.set l x v).get l' x' = if l' = l ∧ x' = x then v else p.get l' x' := by
  unfold Picture.get Picture.set
  by_cases hl : l' = l
  · subst hl
    by_cases hx : x' = x <;> simp [sparse_get_set, hx]
  · simp [sparse_get_set, hl]

/-- Every row an erasure leaves was there. -/
theorem sparse_mem_erase {α : Type} (m : Sparse α) (i : Nat) (e : Nat × α)
    (h : e ∈ Sparse.erase m i) : e ∈ m := by
  induction m with
  | nil => exact h
  | cons c rest ih =>
    unfold Sparse.erase at h
    split at h
    · exact List.mem_cons_of_mem _ (ih h)
    · rcases List.mem_cons.1 h with h | h
      · exact h ▸ List.mem_cons_self
      · exact List.mem_cons_of_mem _ (ih h)

/-- Every row an insertion leaves is the new one or was there. -/
theorem sparse_mem_insert {α : Type} (m : Sparse α) (i : Nat) (v : α) (e : Nat × α)
    (h : e ∈ Sparse.insert m i v) : e.2 = v ∨ e ∈ m := by
  induction m with
  | nil => simp [Sparse.insert] at h; simp [h]
  | cons c rest ih =>
    unfold Sparse.insert at h
    split at h
    · rcases List.mem_cons.1 h with h | h
      · exact .inl (by simp [h])
      · exact .inr (List.mem_cons_of_mem _ h)
    · split at h
      · rcases List.mem_cons.1 h with h | h
        · exact .inl (by simp [h])
        · exact .inr h
      · rcases List.mem_cons.1 h with h | h
        · exact .inr (h ▸ List.mem_cons_self)
        · rcases ih h with h | h
          · exact .inl h
          · exact .inr (List.mem_cons_of_mem _ h)

/-- What a read gives is the unlisted value or stands in a row. -/
theorem sparse_get_mem {α : Type} (d : α) (m : Sparse α) (i : Nat) :
    Sparse.get d m i = d ∨ ∃ e ∈ m, e.2 = Sparse.get d m i := by
  induction m with
  | nil => exact .inl rfl
  | cons c rest ih =>
    unfold Sparse.get
    split
    · exact .inr ⟨c, List.mem_cons_self, rfl⟩
    · rcases ih with h | ⟨e, he, h⟩
      · exact .inl h
      · exact .inr ⟨e, List.mem_cons_of_mem _ he, h⟩

/-- Setting a pixel of the picture keeps the canonical form. -/
theorem picture_wf_set (p : Picture) (l x : Nat) (v : Pixel) (hl : l < 240) (hx : x < 256)
    (hp : p.wf = true) : (p.set l x v).wf = true := by
  unfold Picture.wf at hp ⊢
  rw [Bool.and_eq_true] at hp ⊢
  obtain ⟨h1, h2⟩ := hp
  have hrow : Sparse.wf Pixel.blank 256 0 (Sparse.get [] p l) = true := by
    rcases sparse_get_mem ([] : Sparse Pixel) p l with h | ⟨e, he, h⟩
    · rw [h]; rfl
    · rw [← h]; exact List.all_eq_true.1 h2 e he
  refine ⟨sparse_wf_set _ 240 p l _ hl h1, ?_⟩
  rw [List.all_eq_true] at h2 ⊢
  intro e he
  have hw := sparse_wf_set Pixel.blank 256 _ x v hx hrow
  unfold Picture.set at he
  generalize Sparse.set Pixel.blank (Sparse.get [] p l) x v = row at he hw
  unfold Sparse.set at he
  split at he
  · exact h2 e (sparse_mem_erase _ _ _ he)
  · rcases sparse_mem_insert _ _ _ _ he with h | h
    · rw [h]; exact hw
    · exact h2 e h

/-- The store a buffer is loaded into is in canonical form, and holds the buffer. -/
theorem mem_of_bytes_wf (l : List Byte) (i : Nat) :
    Sparse.wf unlistedByte (i + l.length) i (memOfBytes i l) = true := by
  induction l generalizing i with
  | nil => rfl
  | cons b rest ih =>
    have h : Sparse.wf unlistedByte (i + (rest.length + 1)) (i + 1) (memOfBytes (i + 1) rest) = true := by
      have := ih (i + 1)
      rwa [show i + 1 + rest.length = i + (rest.length + 1) by omega] at this
    unfold memOfBytes
    split
    · exact sparse_wf_mono _ _ _ _ _ (by omega) h
    · rename_i hb
      simp only [Sparse.wf, Bool.and_eq_true, decide_eq_true_eq, List.length_cons]
      exact ⟨⟨⟨by omega, by omega⟩, hb⟩, h⟩

/-- The memories of the machine right after reset are in canonical form. -/
theorem reset_mem_wf : State.reset.memWf = true := by decide

end Sys2Proof.Machine
end

