-- ==== Sys2Proof/Laws/State.lean ====
section
/-! SUPPORT. Laws/State.lean: what each field of the state is after each of the named updates. -/

namespace Sys2Proof.Machine

/-! ### Stops -/

@[simp] theorem raise_state (k : FaultKind) (s : State) :
    (raise k s).state = { s with fault := some k } := by cases k <;> rfl
@[simp] theorem refuse_stateOr (r : RefusalReason) (s u : State) :
    (refuse r s).stateOr u = { s with refused := some r } := by cases r; rfl
@[simp] theorem endState_next (s t : State) : endState s (.next t) = t := rfl
@[simp] theorem endState_fault (s : State) (f : Fault) : endState s (.fault f) = f.state := rfl
@[simp] theorem endState_refused (s : State) (r : Refusal) :
    endState s (.refused r) = r.stateOr s := rfl

/-! ### `mapCpu` -/

@[simp] theorem mapCpu_cpu (f : Cpu → Cpu) (s : State) :
    (mapCpu f s).cpu = f s.cpu := rfl
@[simp] theorem mapCpu_ppu (f : Cpu → Cpu) (s : State) :
    (mapCpu f s).ppu = s.ppu := rfl
@[simp] theorem mapCpu_apu (f : Cpu → Cpu) (s : State) :
    (mapCpu f s).apu = s.apu := rfl
@[simp] theorem mapCpu_bus (f : Cpu → Cpu) (s : State) :
    (mapCpu f s).bus = s.bus := rfl
@[simp] theorem mapCpu_cart (f : Cpu → Cpu) (s : State) :
    (mapCpu f s).cart = s.cart := rfl
@[simp] theorem mapCpu_t (f : Cpu → Cpu) (s : State) :
    (mapCpu f s).t = s.t := rfl
@[simp] theorem mapCpu_frames (f : Cpu → Cpu) (s : State) :
    (mapCpu f s).frames = s.frames := rfl
@[simp] theorem mapCpu_host (f : Cpu → Cpu) (s : State) :
    (mapCpu f s).host = s.host := rfl
@[simp] theorem mapCpu_draws (f : Cpu → Cpu) (s : State) :
    (mapCpu f s).draws = s.draws := rfl
@[simp] theorem mapCpu_fault (f : Cpu → Cpu) (s : State) :
    (mapCpu f s).fault = s.fault := rfl
@[simp] theorem mapCpu_refused (f : Cpu → Cpu) (s : State) :
    (mapCpu f s).refused = s.refused := rfl

/-! ### `ramWrite` -/

@[simp] theorem ramWrite_cpu (i : Nat) (d : Byte) (s : State) :
    (ramWrite i d s).cpu = s.cpu := rfl
@[simp] theorem ramWrite_ppu (i : Nat) (d : Byte) (s : State) :
    (ramWrite i d s).ppu = s.ppu := rfl
@[simp] theorem ramWrite_apu (i : Nat) (d : Byte) (s : State) :
    (ramWrite i d s).apu = s.apu := rfl
@[simp] theorem ramWrite_bus (i : Nat) (d : Byte) (s : State) :
    (ramWrite i d s).bus = { s.bus with ram := s.bus.ram.write i d } := rfl
@[simp] theorem ramWrite_cart (i : Nat) (d : Byte) (s : State) :
    (ramWrite i d s).cart = s.cart := rfl
@[simp] theorem ramWrite_t (i : Nat) (d : Byte) (s : State) :
    (ramWrite i d s).t = s.t := rfl
@[simp] theorem ramWrite_frames (i : Nat) (d : Byte) (s : State) :
    (ramWrite i d s).frames = s.frames := rfl
@[simp] theorem ramWrite_host (i : Nat) (d : Byte) (s : State) :
    (ramWrite i d s).host = s.host := rfl
@[simp] theorem ramWrite_draws (i : Nat) (d : Byte) (s : State) :
    (ramWrite i d s).draws = s.draws := rfl
@[simp] theorem ramWrite_fault (i : Nat) (d : Byte) (s : State) :
    (ramWrite i d s).fault = s.fault := rfl
@[simp] theorem ramWrite_refused (i : Nat) (d : Byte) (s : State) :
    (ramWrite i d s).refused = s.refused := rfl

/-! ### `setPpuLatch` -/

@[simp] theorem setPpuLatch_cpu (d : Byte) (s : State) :
    (setPpuLatch d s).cpu = s.cpu := rfl
@[simp] theorem setPpuLatch_ppu (d : Byte) (s : State) :
    (setPpuLatch d s).ppu = s.ppu := rfl
@[simp] theorem setPpuLatch_apu (d : Byte) (s : State) :
    (setPpuLatch d s).apu = s.apu := rfl
@[simp] theorem setPpuLatch_bus (d : Byte) (s : State) :
    (setPpuLatch d s).bus = { s.bus with ppuLatch := d } := rfl
@[simp] theorem setPpuLatch_cart (d : Byte) (s : State) :
    (setPpuLatch d s).cart = s.cart := rfl
@[simp] theorem setPpuLatch_t (d : Byte) (s : State) :
    (setPpuLatch d s).t = s.t := rfl
@[simp] theorem setPpuLatch_frames (d : Byte) (s : State) :
    (setPpuLatch d s).frames = s.frames := rfl
@[simp] theorem setPpuLatch_host (d : Byte) (s : State) :
    (setPpuLatch d s).host = s.host := rfl
@[simp] theorem setPpuLatch_draws (d : Byte) (s : State) :
    (setPpuLatch d s).draws = s.draws := rfl
@[simp] theorem setPpuLatch_fault (d : Byte) (s : State) :
    (setPpuLatch d s).fault = s.fault := rfl
@[simp] theorem setPpuLatch_refused (d : Byte) (s : State) :
    (setPpuLatch d s).refused = s.refused := rfl

/-! ### `setApuLatch` -/

@[simp] theorem setApuLatch_cpu (d : Byte) (s : State) :
    (setApuLatch d s).cpu = s.cpu := rfl
@[simp] theorem setApuLatch_ppu (d : Byte) (s : State) :
    (setApuLatch d s).ppu = s.ppu := rfl
@[simp] theorem setApuLatch_apu (d : Byte) (s : State) :
    (setApuLatch d s).apu = s.apu := rfl
@[simp] theorem setApuLatch_bus (d : Byte) (s : State) :
    (setApuLatch d s).bus = { s.bus with apuLatch := d } := rfl
@[simp] theorem setApuLatch_cart (d : Byte) (s : State) :
    (setApuLatch d s).cart = s.cart := rfl
@[simp] theorem setApuLatch_t (d : Byte) (s : State) :
    (setApuLatch d s).t = s.t := rfl
@[simp] theorem setApuLatch_frames (d : Byte) (s : State) :
    (setApuLatch d s).frames = s.frames := rfl
@[simp] theorem setApuLatch_host (d : Byte) (s : State) :
    (setApuLatch d s).host = s.host := rfl
@[simp] theorem setApuLatch_draws (d : Byte) (s : State) :
    (setApuLatch d s).draws = s.draws := rfl
@[simp] theorem setApuLatch_fault (d : Byte) (s : State) :
    (setApuLatch d s).fault = s.fault := rfl
@[simp] theorem setApuLatch_refused (d : Byte) (s : State) :
    (setApuLatch d s).refused = s.refused := rfl

/-! ### `controllerWrite` -/

@[simp] theorem controllerWrite_cpu (d : Byte) (s : State) :
    (controllerWrite d s).cpu = s.cpu := rfl
@[simp] theorem controllerWrite_ppu (d : Byte) (s : State) :
    (controllerWrite d s).ppu = s.ppu := rfl
@[simp] theorem controllerWrite_apu (d : Byte) (s : State) :
    (controllerWrite d s).apu = s.apu := rfl
@[simp] theorem controllerWrite_cart (d : Byte) (s : State) :
    (controllerWrite d s).cart = s.cart := rfl
@[simp] theorem controllerWrite_t (d : Byte) (s : State) :
    (controllerWrite d s).t = s.t := rfl
@[simp] theorem controllerWrite_frames (d : Byte) (s : State) :
    (controllerWrite d s).frames = s.frames := rfl
@[simp] theorem controllerWrite_host (d : Byte) (s : State) :
    (controllerWrite d s).host = s.host := rfl
@[simp] theorem controllerWrite_draws (d : Byte) (s : State) :
    (controllerWrite d s).draws = s.draws := rfl
@[simp] theorem controllerWrite_fault (d : Byte) (s : State) :
    (controllerWrite d s).fault = s.fault := rfl
@[simp] theorem controllerWrite_refused (d : Byte) (s : State) :
    (controllerWrite d s).refused = s.refused := rfl

/-! ### `setInflight` -/

@[simp] theorem setInflight_cpu (r : Inflight) (s : State) :
    (setInflight r s).cpu = { s.cpu with inflight := some r } := rfl
@[simp] theorem setInflight_ppu (r : Inflight) (s : State) :
    (setInflight r s).ppu = s.ppu := rfl
@[simp] theorem setInflight_apu (r : Inflight) (s : State) :
    (setInflight r s).apu = s.apu := rfl
@[simp] theorem setInflight_bus (r : Inflight) (s : State) :
    (setInflight r s).bus = s.bus := rfl
@[simp] theorem setInflight_cart (r : Inflight) (s : State) :
    (setInflight r s).cart = s.cart := rfl
@[simp] theorem setInflight_t (r : Inflight) (s : State) :
    (setInflight r s).t = s.t := rfl
@[simp] theorem setInflight_frames (r : Inflight) (s : State) :
    (setInflight r s).frames = s.frames := rfl
@[simp] theorem setInflight_host (r : Inflight) (s : State) :
    (setInflight r s).host = s.host := rfl
@[simp] theorem setInflight_draws (r : Inflight) (s : State) :
    (setInflight r s).draws = s.draws := rfl
@[simp] theorem setInflight_fault (r : Inflight) (s : State) :
    (setInflight r s).fault = s.fault := rfl
@[simp] theorem setInflight_refused (r : Inflight) (s : State) :
    (setInflight r s).refused = s.refused := rfl

/-! ### `push` -/

@[simp] theorem push_cpu (v : Byte) (s : State) :
    (push v s).cpu = { s.cpu with s := s.cpu.s - 1 } := rfl
@[simp] theorem push_ppu (v : Byte) (s : State) :
    (push v s).ppu = s.ppu := rfl
@[simp] theorem push_apu (v : Byte) (s : State) :
    (push v s).apu = s.apu := rfl
@[simp] theorem push_bus (v : Byte) (s : State) :
    (push v s).bus = { s.bus with ram := s.bus.ram.write (stackIndex s.cpu.s) v } := rfl
@[simp] theorem push_cart (v : Byte) (s : State) :
    (push v s).cart = s.cart := rfl
@[simp] theorem push_t (v : Byte) (s : State) :
    (push v s).t = s.t := rfl
@[simp] theorem push_frames (v : Byte) (s : State) :
    (push v s).frames = s.frames := rfl
@[simp] theorem push_host (v : Byte) (s : State) :
    (push v s).host = s.host := rfl
@[simp] theorem push_draws (v : Byte) (s : State) :
    (push v s).draws = s.draws := rfl
@[simp] theorem push_fault (v : Byte) (s : State) :
    (push v s).fault = s.fault := rfl
@[simp] theorem push_refused (v : Byte) (s : State) :
    (push v s).refused = s.refused := rfl

/-! ### `pull` -/

@[simp] theorem pull_snd_cpu (s : State) :
    ((pull s).2).cpu = { s.cpu with s := s.cpu.s + 1 } := rfl
@[simp] theorem pull_snd_ppu (s : State) :
    ((pull s).2).ppu = s.ppu := rfl
@[simp] theorem pull_snd_apu (s : State) :
    ((pull s).2).apu = s.apu := rfl
@[simp] theorem pull_snd_bus (s : State) :
    ((pull s).2).bus = s.bus := rfl
@[simp] theorem pull_snd_cart (s : State) :
    ((pull s).2).cart = s.cart := rfl
@[simp] theorem pull_snd_t (s : State) :
    ((pull s).2).t = s.t := rfl
@[simp] theorem pull_snd_frames (s : State) :
    ((pull s).2).frames = s.frames := rfl
@[simp] theorem pull_snd_host (s : State) :
    ((pull s).2).host = s.host := rfl
@[simp] theorem pull_snd_draws (s : State) :
    ((pull s).2).draws = s.draws := rfl
@[simp] theorem pull_snd_fault (s : State) :
    ((pull s).2).fault = s.fault := rfl
@[simp] theorem pull_snd_refused (s : State) :
    ((pull s).2).refused = s.refused := rfl

/-! ### `finish` -/

@[simp] theorem finish_cpu (pc : Word) (s : State) :
    (finish pc s).cpu = { s.cpu with pc := pc, inflight := none } := rfl
@[simp] theorem finish_ppu (pc : Word) (s : State) :
    (finish pc s).ppu = s.ppu := rfl
@[simp] theorem finish_apu (pc : Word) (s : State) :
    (finish pc s).apu = s.apu := rfl
@[simp] theorem finish_bus (pc : Word) (s : State) :
    (finish pc s).bus = s.bus := rfl
@[simp] theorem finish_cart (pc : Word) (s : State) :
    (finish pc s).cart = s.cart := rfl
@[simp] theorem finish_t (pc : Word) (s : State) :
    (finish pc s).t = s.t := rfl
@[simp] theorem finish_frames (pc : Word) (s : State) :
    (finish pc s).frames = s.frames := rfl
@[simp] theorem finish_host (pc : Word) (s : State) :
    (finish pc s).host = s.host := rfl
@[simp] theorem finish_draws (pc : Word) (s : State) :
    (finish pc s).draws = s.draws := rfl
@[simp] theorem finish_fault (pc : Word) (s : State) :
    (finish pc s).fault = s.fault := rfl
@[simp] theorem finish_refused (pc : Word) (s : State) :
    (finish pc s).refused = s.refused := rfl

/-! ### `endsAt` -/

@[simp] theorem endsAt_cpu (pc : Word) (s : State) :
    (endsAt pc s).cpu = { s.cpu with pc := pc, inflight := none } := rfl
@[simp] theorem endsAt_ppu (pc : Word) (s : State) :
    (endsAt pc s).ppu = s.ppu := rfl
@[simp] theorem endsAt_apu (pc : Word) (s : State) :
    (endsAt pc s).apu = s.apu := rfl
@[simp] theorem endsAt_bus (pc : Word) (s : State) :
    (endsAt pc s).bus = s.bus := rfl
@[simp] theorem endsAt_cart (pc : Word) (s : State) :
    (endsAt pc s).cart = s.cart := rfl
@[simp] theorem endsAt_t (pc : Word) (s : State) :
    (endsAt pc s).t = s.t := rfl
@[simp] theorem endsAt_frames (pc : Word) (s : State) :
    (endsAt pc s).frames = s.frames := rfl
@[simp] theorem endsAt_host (pc : Word) (s : State) :
    (endsAt pc s).host = s.host := rfl
@[simp] theorem endsAt_draws (pc : Word) (s : State) :
    (endsAt pc s).draws = s.draws := rfl
@[simp] theorem endsAt_fault (pc : Word) (s : State) :
    (endsAt pc s).fault = s.fault := rfl
@[simp] theorem endsAt_refused (pc : Word) (s : State) :
    (endsAt pc s).refused = s.refused := rfl

/-! ### `countElapsed` -/

@[simp] theorem countElapsed_ppu (s : State) :
    (countElapsed s).ppu = s.ppu := rfl
@[simp] theorem countElapsed_apu (s : State) :
    (countElapsed s).apu = s.apu := rfl
@[simp] theorem countElapsed_bus (s : State) :
    (countElapsed s).bus = s.bus := rfl
@[simp] theorem countElapsed_cart (s : State) :
    (countElapsed s).cart = s.cart := rfl
@[simp] theorem countElapsed_t (s : State) :
    (countElapsed s).t = s.t := rfl
@[simp] theorem countElapsed_frames (s : State) :
    (countElapsed s).frames = s.frames := rfl
@[simp] theorem countElapsed_host (s : State) :
    (countElapsed s).host = s.host := rfl
@[simp] theorem countElapsed_draws (s : State) :
    (countElapsed s).draws = s.draws := rfl
@[simp] theorem countElapsed_fault (s : State) :
    (countElapsed s).fault = s.fault := rfl
@[simp] theorem countElapsed_refused (s : State) :
    (countElapsed s).refused = s.refused := rfl

/-! ### `nmiDetect` -/

@[simp] theorem nmiDetect_ppu (s : State) :
    (nmiDetect s).ppu = s.ppu := rfl
@[simp] theorem nmiDetect_apu (s : State) :
    (nmiDetect s).apu = s.apu := rfl
@[simp] theorem nmiDetect_bus (s : State) :
    (nmiDetect s).bus = s.bus := rfl
@[simp] theorem nmiDetect_cart (s : State) :
    (nmiDetect s).cart = s.cart := rfl
@[simp] theorem nmiDetect_t (s : State) :
    (nmiDetect s).t = s.t := rfl
@[simp] theorem nmiDetect_frames (s : State) :
    (nmiDetect s).frames = s.frames := rfl
@[simp] theorem nmiDetect_host (s : State) :
    (nmiDetect s).host = s.host := rfl
@[simp] theorem nmiDetect_draws (s : State) :
    (nmiDetect s).draws = s.draws := rfl
@[simp] theorem nmiDetect_fault (s : State) :
    (nmiDetect s).fault = s.fault := rfl
@[simp] theorem nmiDetect_refused (s : State) :
    (nmiDetect s).refused = s.refused := rfl

/-! ### `tickT` -/

@[simp] theorem tickT_cpu (s : State) :
    (tickT s).cpu = s.cpu := rfl
@[simp] theorem tickT_ppu (s : State) :
    (tickT s).ppu = s.ppu := rfl
@[simp] theorem tickT_apu (s : State) :
    (tickT s).apu = s.apu := rfl
@[simp] theorem tickT_bus (s : State) :
    (tickT s).bus = s.bus := rfl
@[simp] theorem tickT_cart (s : State) :
    (tickT s).cart = s.cart := rfl
@[simp] theorem tickT_t (s : State) :
    (tickT s).t = s.t + 1 := rfl
@[simp] theorem tickT_frames (s : State) :
    (tickT s).frames = s.frames := rfl
@[simp] theorem tickT_host (s : State) :
    (tickT s).host = s.host := rfl
@[simp] theorem tickT_draws (s : State) :
    (tickT s).draws = s.draws := rfl
@[simp] theorem tickT_fault (s : State) :
    (tickT s).fault = s.fault := rfl
@[simp] theorem tickT_refused (s : State) :
    (tickT s).refused = s.refused := rfl

/-! ### `withButtons` -/

@[simp] theorem withButtons_cpu (b1 b2 : Byte) (s : State) :
    (s.withButtons b1 b2).cpu = s.cpu := rfl
@[simp] theorem withButtons_ppu (b1 b2 : Byte) (s : State) :
    (s.withButtons b1 b2).ppu = s.ppu := rfl
@[simp] theorem withButtons_apu (b1 b2 : Byte) (s : State) :
    (s.withButtons b1 b2).apu = s.apu := rfl
@[simp] theorem withButtons_bus (b1 b2 : Byte) (s : State) :
    (s.withButtons b1 b2).bus = s.bus := rfl
@[simp] theorem withButtons_cart (b1 b2 : Byte) (s : State) :
    (s.withButtons b1 b2).cart = s.cart := rfl
@[simp] theorem withButtons_t (b1 b2 : Byte) (s : State) :
    (s.withButtons b1 b2).t = s.t := rfl
@[simp] theorem withButtons_frames (b1 b2 : Byte) (s : State) :
    (s.withButtons b1 b2).frames = s.frames := rfl
@[simp] theorem withButtons_host (b1 b2 : Byte) (s : State) :
    (s.withButtons b1 b2).host = { s.host with buttons1 := b1, buttons2 := b2 } := rfl
@[simp] theorem withButtons_draws (b1 b2 : Byte) (s : State) :
    (s.withButtons b1 b2).draws = s.draws := rfl
@[simp] theorem withButtons_fault (b1 b2 : Byte) (s : State) :
    (s.withButtons b1 b2).fault = s.fault := rfl
@[simp] theorem withButtons_refused (b1 b2 : Byte) (s : State) :
    (s.withButtons b1 b2).refused = s.refused := rfl

/-! ### `readyToFetch` -/

@[simp] theorem readyToFetch_ppu (s : State) :
    (readyToFetch s).ppu = s.ppu := rfl
@[simp] theorem readyToFetch_apu (s : State) :
    (readyToFetch s).apu = s.apu := rfl
@[simp] theorem readyToFetch_bus (s : State) :
    (readyToFetch s).bus = s.bus := rfl
@[simp] theorem readyToFetch_cart (s : State) :
    (readyToFetch s).cart = s.cart := rfl
@[simp] theorem readyToFetch_t (s : State) :
    (readyToFetch s).t = s.t := rfl
@[simp] theorem readyToFetch_frames (s : State) :
    (readyToFetch s).frames = s.frames := rfl
@[simp] theorem readyToFetch_host (s : State) :
    (readyToFetch s).host = s.host := rfl
@[simp] theorem readyToFetch_draws (s : State) :
    (readyToFetch s).draws = s.draws := rfl
@[simp] theorem readyToFetch_fault (s : State) :
    (readyToFetch s).fault = s.fault := rfl
@[simp] theorem readyToFetch_refused (s : State) :
    (readyToFetch s).refused = s.refused := rfl

/-! ### Fields of the CPU the flag operations leave -/

@[simp] theorem setN_a (b : Bool) (c : Cpu) : (setN b c).a = c.a := rfl
@[simp] theorem setN_x (b : Bool) (c : Cpu) : (setN b c).x = c.x := rfl
@[simp] theorem setN_y (b : Bool) (c : Cpu) : (setN b c).y = c.y := rfl
@[simp] theorem setN_s (b : Bool) (c : Cpu) : (setN b c).s = c.s := rfl
@[simp] theorem setN_pc (b : Bool) (c : Cpu) : (setN b c).pc = c.pc := rfl
@[simp] theorem setN_inflight (b : Bool) (c : Cpu) : (setN b c).inflight = c.inflight := rfl
@[simp] theorem setN_intReq (b : Bool) (c : Cpu) : (setN b c).intReq = c.intReq := rfl
@[simp] theorem setN_nmiPending (b : Bool) (c : Cpu) : (setN b c).nmiPending = c.nmiPending := rfl
@[simp] theorem setN_nmiPrev (b : Bool) (c : Cpu) : (setN b c).nmiPrev = c.nmiPrev := rfl
@[simp] theorem setN_halted (b : Bool) (c : Cpu) : (setN b c).halted = c.halted := rfl
@[simp] theorem setN_dmcStall (b : Bool) (c : Cpu) : (setN b c).dmcStall = c.dmcStall := rfl

@[simp] theorem setV_a (b : Bool) (c : Cpu) : (setV b c).a = c.a := rfl
@[simp] theorem setV_x (b : Bool) (c : Cpu) : (setV b c).x = c.x := rfl
@[simp] theorem setV_y (b : Bool) (c : Cpu) : (setV b c).y = c.y := rfl
@[simp] theorem setV_s (b : Bool) (c : Cpu) : (setV b c).s = c.s := rfl
@[simp] theorem setV_pc (b : Bool) (c : Cpu) : (setV b c).pc = c.pc := rfl
@[simp] theorem setV_inflight (b : Bool) (c : Cpu) : (setV b c).inflight = c.inflight := rfl
@[simp] theorem setV_intReq (b : Bool) (c : Cpu) : (setV b c).intReq = c.intReq := rfl
@[simp] theorem setV_nmiPending (b : Bool) (c : Cpu) : (setV b c).nmiPending = c.nmiPending := rfl
@[simp] theorem setV_nmiPrev (b : Bool) (c : Cpu) : (setV b c).nmiPrev = c.nmiPrev := rfl
@[simp] theorem setV_halted (b : Bool) (c : Cpu) : (setV b c).halted = c.halted := rfl
@[simp] theorem setV_dmcStall (b : Bool) (c : Cpu) : (setV b c).dmcStall = c.dmcStall := rfl

@[simp] theorem setD_a (b : Bool) (c : Cpu) : (setD b c).a = c.a := rfl
@[simp] theorem setD_x (b : Bool) (c : Cpu) : (setD b c).x = c.x := rfl
@[simp] theorem setD_y (b : Bool) (c : Cpu) : (setD b c).y = c.y := rfl
@[simp] theorem setD_s (b : Bool) (c : Cpu) : (setD b c).s = c.s := rfl
@[simp] theorem setD_pc (b : Bool) (c : Cpu) : (setD b c).pc = c.pc := rfl
@[simp] theorem setD_inflight (b : Bool) (c : Cpu) : (setD b c).inflight = c.inflight := rfl
@[simp] theorem setD_intReq (b : Bool) (c : Cpu) : (setD b c).intReq = c.intReq := rfl
@[simp] theorem setD_nmiPending (b : Bool) (c : Cpu) : (setD b c).nmiPending = c.nmiPending := rfl
@[simp] theorem setD_nmiPrev (b : Bool) (c : Cpu) : (setD b c).nmiPrev = c.nmiPrev := rfl
@[simp] theorem setD_halted (b : Bool) (c : Cpu) : (setD b c).halted = c.halted := rfl
@[simp] theorem setD_dmcStall (b : Bool) (c : Cpu) : (setD b c).dmcStall = c.dmcStall := rfl

@[simp] theorem setI_a (b : Bool) (c : Cpu) : (setI b c).a = c.a := rfl
@[simp] theorem setI_x (b : Bool) (c : Cpu) : (setI b c).x = c.x := rfl
@[simp] theorem setI_y (b : Bool) (c : Cpu) : (setI b c).y = c.y := rfl
@[simp] theorem setI_s (b : Bool) (c : Cpu) : (setI b c).s = c.s := rfl
@[simp] theorem setI_pc (b : Bool) (c : Cpu) : (setI b c).pc = c.pc := rfl
@[simp] theorem setI_inflight (b : Bool) (c : Cpu) : (setI b c).inflight = c.inflight := rfl
@[simp] theorem setI_intReq (b : Bool) (c : Cpu) : (setI b c).intReq = c.intReq := rfl
@[simp] theorem setI_nmiPending (b : Bool) (c : Cpu) : (setI b c).nmiPending = c.nmiPending := rfl
@[simp] theorem setI_nmiPrev (b : Bool) (c : Cpu) : (setI b c).nmiPrev = c.nmiPrev := rfl
@[simp] theorem setI_halted (b : Bool) (c : Cpu) : (setI b c).halted = c.halted := rfl
@[simp] theorem setI_dmcStall (b : Bool) (c : Cpu) : (setI b c).dmcStall = c.dmcStall := rfl

@[simp] theorem setZ_a (b : Bool) (c : Cpu) : (setZ b c).a = c.a := rfl
@[simp] theorem setZ_x (b : Bool) (c : Cpu) : (setZ b c).x = c.x := rfl
@[simp] theorem setZ_y (b : Bool) (c : Cpu) : (setZ b c).y = c.y := rfl
@[simp] theorem setZ_s (b : Bool) (c : Cpu) : (setZ b c).s = c.s := rfl
@[simp] theorem setZ_pc (b : Bool) (c : Cpu) : (setZ b c).pc = c.pc := rfl
@[simp] theorem setZ_inflight (b : Bool) (c : Cpu) : (setZ b c).inflight = c.inflight := rfl
@[simp] theorem setZ_intReq (b : Bool) (c : Cpu) : (setZ b c).intReq = c.intReq := rfl
@[simp] theorem setZ_nmiPending (b : Bool) (c : Cpu) : (setZ b c).nmiPending = c.nmiPending := rfl
@[simp] theorem setZ_nmiPrev (b : Bool) (c : Cpu) : (setZ b c).nmiPrev = c.nmiPrev := rfl
@[simp] theorem setZ_halted (b : Bool) (c : Cpu) : (setZ b c).halted = c.halted := rfl
@[simp] theorem setZ_dmcStall (b : Bool) (c : Cpu) : (setZ b c).dmcStall = c.dmcStall := rfl

@[simp] theorem setC_a (b : Bool) (c : Cpu) : (setC b c).a = c.a := rfl
@[simp] theorem setC_x (b : Bool) (c : Cpu) : (setC b c).x = c.x := rfl
@[simp] theorem setC_y (b : Bool) (c : Cpu) : (setC b c).y = c.y := rfl
@[simp] theorem setC_s (b : Bool) (c : Cpu) : (setC b c).s = c.s := rfl
@[simp] theorem setC_pc (b : Bool) (c : Cpu) : (setC b c).pc = c.pc := rfl
@[simp] theorem setC_inflight (b : Bool) (c : Cpu) : (setC b c).inflight = c.inflight := rfl
@[simp] theorem setC_intReq (b : Bool) (c : Cpu) : (setC b c).intReq = c.intReq := rfl
@[simp] theorem setC_nmiPending (b : Bool) (c : Cpu) : (setC b c).nmiPending = c.nmiPending := rfl
@[simp] theorem setC_nmiPrev (b : Bool) (c : Cpu) : (setC b c).nmiPrev = c.nmiPrev := rfl
@[simp] theorem setC_halted (b : Bool) (c : Cpu) : (setC b c).halted = c.halted := rfl
@[simp] theorem setC_dmcStall (b : Bool) (c : Cpu) : (setC b c).dmcStall = c.dmcStall := rfl

@[simp] theorem setNZ_a (v : Byte) (c : Cpu) : (setNZ v c).a = c.a := rfl
@[simp] theorem setNZ_x (v : Byte) (c : Cpu) : (setNZ v c).x = c.x := rfl
@[simp] theorem setNZ_y (v : Byte) (c : Cpu) : (setNZ v c).y = c.y := rfl
@[simp] theorem setNZ_s (v : Byte) (c : Cpu) : (setNZ v c).s = c.s := rfl
@[simp] theorem setNZ_pc (v : Byte) (c : Cpu) : (setNZ v c).pc = c.pc := rfl
@[simp] theorem setNZ_inflight (v : Byte) (c : Cpu) : (setNZ v c).inflight = c.inflight := rfl
@[simp] theorem setNZ_intReq (v : Byte) (c : Cpu) : (setNZ v c).intReq = c.intReq := rfl
@[simp] theorem setNZ_nmiPending (v : Byte) (c : Cpu) : (setNZ v c).nmiPending = c.nmiPending := rfl
@[simp] theorem setNZ_nmiPrev (v : Byte) (c : Cpu) : (setNZ v c).nmiPrev = c.nmiPrev := rfl
@[simp] theorem setNZ_halted (v : Byte) (c : Cpu) : (setNZ v c).halted = c.halted := rfl
@[simp] theorem setNZ_dmcStall (v : Byte) (c : Cpu) : (setNZ v c).dmcStall = c.dmcStall := rfl

end Sys2Proof.Machine
end

