-- ==== Sys2Proof/Laws/Bus.lean ====
section
/-! SUPPORT. Laws/Bus.lean: where the routers send an address, and that every memory access keeps the
memories in canonical form. -/

namespace Sys2Proof.Machine

/-! ## Routing -/

/-- A read of console RAM (R210). -/
theorem mem_read_ram (a : Word) (s : State) (h : a.toNat < 0x2000) :
    memRead a s = (s.bus.ram.read (a.toNat % 2048), s) := by
  have : a ≤ 0x1FFF := by rw [BitVec.le_def]; show a.toNat ≤ 0x1FFF; omega
  rw [memRead, if_pos this]

/-- A read of a PPU register (R210). -/
theorem mem_read_ppu (a : Word) (s : State) (h : 0x2000 ≤ a.toNat) (h' : a.toNat < 0x4000) :
    memRead a s = ppuRegRead (a.toNat % 8) s := by
  have h1 : ¬ a ≤ 0x1FFF := by rw [BitVec.le_def]; show ¬ a.toNat ≤ 0x1FFF; omega
  have h2 : a ≤ 0x3FFF := by rw [BitVec.le_def]; show a.toNat ≤ 0x3FFF; omega
  rw [memRead, if_neg h1, if_pos h2]

/-- A read of $4018-$5FFF is unmapped (R210, R213). -/
theorem mem_read_unmapped (a : Word) (s : State) (h : 0x4018 ≤ a.toNat) (h' : a.toNat < 0x6000) :
    memRead a s = unmappedRead a s := by
  have h1 : ¬ a ≤ 0x1FFF := by rw [BitVec.le_def]; show ¬ a.toNat ≤ 0x1FFF; omega
  have h2 : ¬ a ≤ 0x3FFF := by rw [BitVec.le_def]; show ¬ a.toNat ≤ 0x3FFF; omega
  have h3 : ¬ a ≤ 0x4013 := by rw [BitVec.le_def]; show ¬ a.toNat ≤ 0x4013; omega
  have h4 : a ≤ 0x5FFF := by rw [BitVec.le_def]; show a.toNat ≤ 0x5FFF; omega
  have n4 : a ≠ 0x4014 := by rintro rfl; exact absurd h (by decide)
  have n5 : a ≠ 0x4015 := by rintro rfl; exact absurd h (by decide)
  have n6 : a ≠ 0x4016 := by rintro rfl; exact absurd h (by decide)
  have n7 : a ≠ 0x4017 := by rintro rfl; exact absurd h (by decide)
  rw [memRead, if_neg h1, if_neg h2, if_neg n4, if_neg n5, if_neg n6, if_neg n7, if_neg h3, if_pos h4]

/-- A read of cartridge space (R210, R1402). -/
theorem mem_read_cart (a : Word) (s : State) (h : 0x6000 ≤ a.toNat) :
    memRead a s = (s.cart.cpuRead a.toNat, s) := by
  have h1 : ¬ a ≤ 0x1FFF := by rw [BitVec.le_def]; show ¬ a.toNat ≤ 0x1FFF; omega
  have h2 : ¬ a ≤ 0x3FFF := by rw [BitVec.le_def]; show ¬ a.toNat ≤ 0x3FFF; omega
  have h3 : ¬ a ≤ 0x4013 := by rw [BitVec.le_def]; show ¬ a.toNat ≤ 0x4013; omega
  have h4 : ¬ a ≤ 0x5FFF := by rw [BitVec.le_def]; show ¬ a.toNat ≤ 0x5FFF; omega
  have n4 : a ≠ 0x4014 := by rintro rfl; exact absurd h (by decide)
  have n5 : a ≠ 0x4015 := by rintro rfl; exact absurd h (by decide)
  have n6 : a ≠ 0x4016 := by rintro rfl; exact absurd h (by decide)
  have n7 : a ≠ 0x4017 := by rintro rfl; exact absurd h (by decide)
  rw [memRead, if_neg h1, if_neg h2, if_neg n4, if_neg n5, if_neg n6, if_neg n7, if_neg h3, if_neg h4]

/-- Everything a read can be: the five kinds of source the router knows (R210). -/
theorem mem_read_cases (a : Word) (s : State) :
    memRead a s = (s.bus.ram.read (a.toNat % 2048), s) ∨
    memRead a s = ppuRegRead (a.toNat % 8) s ∨ memRead a s = (s.bus.ppuLatch, s) ∨
    memRead a s = apuStatusRead s ∨ memRead a s = controllerRead1 s ∨
    memRead a s = controllerRead2 s ∨ memRead a s = (s.bus.apuLatch, s) ∨
    memRead a s = unmappedRead a s ∨ memRead a s = (s.cart.cpuRead a.toNat, s) := by
  unfold memRead
  repeat' split
  all_goals simp

/-- Everything a write can be (R211). -/
theorem mem_write_cases (a : Word) (d : Byte) (s : State) :
    memWrite a d s = .ok (ramWrite (a.toNat % 2048) d s) ∨
    memWrite a d s = ppuRegWrite (a.toNat % 8) d (setPpuLatch d s) ∨
    memWrite a d s = .ok (oamDma d (setPpuLatch d s)) ∨
    memWrite a d s = .ok (controllerWrite d s) ∨
    memWrite a d s = .ok { setApuLatch d s with apu := apuRegWrite s.t (a.toNat - 0x4000) d s.apu } ∨
    memWrite a d s = .ok s ∨ memWrite a d s = cartWrite a d s := by
  unfold memWrite
  repeat' split
  all_goals simp

/-- A write of console RAM (R211). -/
theorem mem_write_ram (a : Word) (d : Byte) (s : State) (h : a.toNat < 0x2000) :
    memWrite a d s = .ok (ramWrite (a.toNat % 2048) d s) := by
  have : a ≤ 0x1FFF := by rw [BitVec.le_def]; show a.toNat ≤ 0x1FFF; omega
  rw [memWrite, if_pos this]

/-! ## Access by access, the memories stay in canonical form -/

/-- The memory bounds, one by one. -/
theorem mem_wf_iff (s : State) : s.memWf = true ↔
    s.bus.ram.wf 2048 = true ∧ s.bus.vram.wf 2048 = true ∧ s.ppu.oam.wf 256 = true ∧
    Sparse.wf (0 : BitVec 6) 32 0 s.ppu.pal = true ∧ s.cart.prgRam.wf 8192 = true ∧
    s.cart.chrRam.wf 8192 = true ∧ s.cart.prg.wf s.cart.prgLen = true ∧
    s.cart.chr.wf s.cart.chrLen = true ∧ s.ppu.fb.wf = true := by
  unfold State.memWf; simp only [Bool.and_eq_true, and_assoc]

/-- `NtIndex` stays in the 2 KiB of VRAM (R231). -/
theorem nt_index_lt (m : Mirroring) (a : BitVec 14) : ntIndex m a < 2048 := by
  unfold ntIndex
  have h : ntBank m (a.toNat / 0x400 % 4) ≤ 1 := by cases m <;> simp only [ntBank] <;> omega
  have h2 : a.toNat % 0x400 < 0x400 := Nat.mod_lt _ (by decide)
  omega

/-- `PalIndex` stays in the 32 entries (R232). -/
theorem pal_index_lt (a : BitVec 14) : palIndex a < 32 := by
  unfold palIndex; exact BitVec.isLt _

/-- A bank offset stays in storage that holds a whole bank (R1405). -/
theorem bank_offset_lt (req size len a : Nat) (hs : 0 < size) (h : size ≤ len) :
    bankOffset req size len a < len := by
  unfold bankOffset bankOf
  have h1 : req % (len / size) < len / size := Nat.mod_lt _ (Nat.div_pos h hs)
  have h2 : a % size < size := Nat.mod_lt _ hs
  have h3 : len / size * size ≤ len := Nat.div_mul_le_self len size
  have h4 : (req % (len / size) + 1) * size ≤ len / size * size := Nat.mul_le_mul_right _ h1
  have h5 : (req % (len / size) + 1) * size = req % (len / size) * size + size := Nat.succ_mul _ _
  omega

/-- With CHR-RAM the graphics offset stays in its 8 KiB (R1406). -/
theorem chr_offset_lt (c : Cart) (a : Nat) (hc : c.chrLen = 0) (ha : a < 8192) :
    c.chrOffset a < 8192 := by
  have hz : c.chrSize = 8192 := by simp [Cart.chrSize, hc]
  unfold Cart.chrOffset
  rw [hz]
  cases c.mapper with
  | nrom => exact ha
  | uxrom _ => exact ha
  | axrom _ _ => exact ha
  | mmc1 m => exact bank_offset_lt _ _ _ _ (by decide) (by decide)
  | cnrom b => exact bank_offset_lt _ _ _ _ (by decide) (by decide)
  | mmc3 m => exact bank_offset_lt _ _ _ _ (by decide) (by decide)

/-- The A12 observer touches no memory. -/
theorem a12_observe_mem (a : BitVec 14) (s : State) :
    (a12Observe a s).bus = s.bus ∧ (a12Observe a s).ppu = { s.ppu with lastA12 := a.getLsbD 12 } ∧
    ∃ m, (a12Observe a s).cart = { s.cart with mapper := m } := ⟨rfl, rfl, _, rfl⟩

/-- A PPU-bus write that does not fault keeps the canonical form (R230). -/
theorem ppu_write_mem_wf (a : BitVec 14) (d : Byte) (s t : State) (hs : s.memWf = true)
    (h : ppuWrite a d s = .ok t) : t.memWf = true := by
  rw [mem_wf_iff] at hs ⊢
  obtain ⟨h1, h2, h3, h4, h5, h6, h7, h8, h9⟩ := hs
  unfold ppuWrite at h
  split at h
  · rename_i ha
    obtain ⟨hb, hp, m, hm⟩ := a12_observe_mem a s
    unfold Cart.chrWrite at h
    simp only [hm] at h
    split at h
    · rename_i c hc
      split at hc
      · rename_i hz
        injection hc with hc
        injection h with h
        subst h; subst hc
        simp only [hb, hp]
        have ha' : a.toNat < 8192 := by
          rw [BitVec.le_def] at ha
          have : a.toNat ≤ 0x1FFF := ha
          omega
        refine ⟨h1, h2, h3, h4, h5, ?_, h7, h8, h9⟩
        exact mem_wf_write _ _ _ _ (chr_offset_lt { s.cart with mapper := m } _ hz ha') h6
      · cases hc
    · cases h
  · split at h
    · injection h with h
      subst h
      exact ⟨h1, mem_wf_write _ _ _ _ (nt_index_lt _ _) h2, h3, h4, h5, h6, h7, h8, h9⟩
    · injection h with h
      subst h
      exact ⟨h1, h2, h3, pal_wf_write _ _ _ (pal_index_lt _) h4, h5, h6, h7, h8, h9⟩

/-- A cartridge write that does not fault keeps the canonical form (R1402, R1403). -/
theorem cart_write_mem_wf (a : Word) (d : Byte) (s t : State) (ha : 0x6000 ≤ a.toNat)
    (hs : s.memWf = true) (h : cartWrite a d s = .ok t) : t.memWf = true := by
  rw [mem_wf_iff] at hs ⊢
  obtain ⟨h1, h2, h3, h4, h5, h6, h7, h8, h9⟩ := hs
  unfold cartWrite Cart.cpuWrite at h
  split at h
  · rename_i c hc
    injection h with h
    subst h
    split at hc
    · injection hc with hc
      subst hc
      exact ⟨h1, h2, h3, h4, mem_wf_write _ _ _ _ (by omega) h5, h6, h7, h8, h9⟩
    · split at hc
      · injection hc with hc
        subst hc
        exact ⟨h1, h2, h3, h4, h5, h6, h7, h8, h9⟩
      · cases hc
  · cases h

/-- A RAM write keeps the canonical form. -/
theorem ram_write_mem_wf (i : Nat) (d : Byte) (s : State) (hi : i < 2048) (hs : s.memWf = true) :
    (ramWrite i d s).memWf = true := by
  rw [mem_wf_iff] at hs ⊢
  obtain ⟨h1, h⟩ := hs
  exact ⟨mem_wf_write _ _ _ _ hi h1, h⟩

/-- An OAM write keeps the canonical form (R1024). -/
theorem write_oam_data_mem_wf (d : Byte) (s : State) (hs : s.memWf = true) :
    State.memWf { s with ppu := writeOamData d s.ppu } = true := by
  rw [mem_wf_iff] at hs ⊢
  obtain ⟨h1, h2, h3, h⟩ := hs
  exact ⟨h1, h2, mem_wf_write _ _ _ _ (BitVec.isLt _) h3, h⟩

end Sys2Proof.Machine
end

