-- ==== Sys2Proof/Laws/Ops.lean ====
section
/-! SUPPORT. Laws/Ops.lean: for each shared operation of Operands.lean and Ops.lean, everything it can
do; the provers cite these and need not unfold the operation. -/

namespace Sys2Proof.Machine

/-! ## The stack -/

/-- A stack address, as the router's index of console RAM. -/
theorem stack_address (sp : Byte) :
    (0x0100 + zext16 sp : Word).toNat = stackIndex sp ∧ stackIndex sp < 0x200 := by
  revert sp; decide +kernel

/-- `Push(v)` is the router's write at `$0100 | S` (R11). -/
theorem push_eq_mem_write (v : Byte) (s : State) :
    memWrite (0x0100 + zext16 s.cpu.s) v s = .ok (ramWrite (stackIndex s.cpu.s) v s) := by
  obtain ⟨h, hlt⟩ := stack_address s.cpu.s
  rw [mem_write_ram _ _ _ (by omega), h, Nat.mod_eq_of_lt (by omega)]

/-- `Pull()` reads the byte the router gives at `$0100 | (S + 1)` (R11). -/
theorem pull_byte_eq_mem_read (s : State) :
    memRead (0x0100 + zext16 (s.cpu.s + 1)) s = (pullByte s, s) := by
  obtain ⟨h, hlt⟩ := stack_address (s.cpu.s + 1)
  rw [mem_read_ram _ _ (by omega), h, Nat.mod_eq_of_lt (by omega)]
  rfl

/-! ## The operand primitives -/

/-- Everything `Load()` can do (R405). -/
theorem load_cases (o : Operand) (s : State) (v : Byte) (t : State) (h : load o s = .ok (v, t)) :
    (o = .immediate v ∧ t = s) ∨ (o = .accumulator ∧ v = s.cpu.a ∧ t = s) ∨
    ∃ a, o = .address a ∧ memRead a s = (v, t) := by
  cases o with
  | immediate b => simp only [load, Except.ok.injEq, Prod.mk.injEq] at h; simp [h]
  | accumulator =>
    simp only [load, Except.ok.injEq, Prod.mk.injEq] at h
    exact .inr (.inl ⟨rfl, h.1.symm, h.2.symm⟩)
  | address a => simp only [load, Except.ok.injEq] at h; exact .inr (.inr ⟨a, rfl, h⟩)
  | implicit => cases h
  | relative _ => cases h

/-- Everything `Store(v)` can do (R405). -/
theorem store_cases (o : Operand) (v : Byte) (s t : State) (h : store o v s = .ok t) :
    ∃ a, o = .address a ∧ memWrite a v s = .ok t := by
  cases o with
  | address a => exact ⟨a, rfl, h⟩
  | implicit => cases h
  | accumulator => cases h
  | immediate _ => cases h
  | relative _ => cases h

/-- Everything `RMW(f)` can do (R405). -/
theorem rmw_cases (f : Byte → Cpu → Byte × Cpu) (o : Operand) (s t : State) (r : Byte)
    (h : rmw f o s = .ok (r, t)) :
    (o = .accumulator ∧ r = (f s.cpu.a s.cpu).1 ∧
      t = { s with cpu := { (f s.cpu.a s.cpu).2 with a := r } }) ∨
    ∃ a, o = .address a ∧ r = (f (memRead a s).1 (memRead a s).2.cpu).1 ∧
      memWrite a r { (memRead a s).2 with cpu := (f (memRead a s).1 (memRead a s).2.cpu).2 } = .ok t := by
  cases o with
  | accumulator =>
    simp only [rmw, Except.ok.injEq, Prod.mk.injEq] at h
    obtain ⟨h1, h2⟩ := h
    exact .inl ⟨rfl, h1.symm, by rw [← h2, ← h1]⟩
  | address a =>
    right
    simp only [rmw] at h
    split at h
    · rename_i u hu
      injection h with h
      injection h with h1 h2
      subst h2; subst h1
      exact ⟨a, rfl, rfl, hu⟩
    · cases h
  | implicit => cases h
  | immediate _ => cases h
  | relative _ => cases h

/-! ## Records -/

/-- A form resolves to an operand that fits it (R410 to R419). -/
theorem resolve_fits (f : Form) (pc0 : Word) (s : State) :
    operandFits f (resolve f pc0 s).operand = true := by
  cases f <;> simp [resolve, operandFits, direct, indexed]

/-- The record in flight is the one a completion works on. -/
theorem record_of_some (i : Instr) (s : State) (r : Inflight) (h : s.cpu.inflight = some r) :
    recordOf i s = (r, s) := by rw [recordOf, h]

/-- With nothing in flight, the record is the one `issue` makes. -/
theorem record_of_none (i : Instr) (s : State) (h : s.cpu.inflight = none) :
    recordOf i s = newRecord i s := by rw [recordOf, h]

/-- A record that fits the state fits the instruction. -/
theorem rec_of_fits (i : Instr) (s : State) (h : recordFits i s = true) :
    operandFits i.form (recOf i s).operand = true := by
  unfold recOf
  cases hr : s.cpu.inflight with
  | none => rw [record_of_none i s hr]; exact resolve_fits _ _ _
  | some r =>
    rw [record_of_some i s r hr]
    simpa only [recordFits, hr] using h

/-! ## Completion -/

/-- Everything a completion that advances PC can do (R404). -/
theorem run_instr_cases (i : Instr) (e : Inflight → State → Res State) (s t : State)
    (h : runInstr i e s = .next t) :
    ∃ u, e (recOf i s) (preOf i s) = .ok u ∧ t = endsAt (pastPc i s) u := by
  unfold runInstr at h
  simp only at h
  split at h
  · rename_i u hu
    injection h with h
    exact ⟨u, hu, h.symm⟩
  · cases h

/-- An effect that succeeds completes. -/
theorem run_instr_ok (i : Instr) (e : Inflight → State → Res State) (s u : State)
    (h : e (recOf i s) (preOf i s) = .ok u) :
    runInstr i e s = .next (endsAt (pastPc i s) u) := by
  unfold recOf preOf at h
  simp only [runInstr, h]
  rfl

/-- An effect that faults ends the instruction in that fault. -/
theorem run_instr_error (i : Instr) (e : Inflight → State → Res State) (s : State) (f : Fault)
    (h : e (recOf i s) (preOf i s) = .error f) : runInstr i e s = .fault f := by
  unfold recOf preOf at h
  simp only [runInstr, h]

/-- A completion that sets PC always completes (R404). -/
theorem run_jump_eq (i : Instr) (e : Inflight → State → Word × State) (s : State) :
    runJump i e s =
      .next (endsAt (e (recOf i s) (preOf i s)).1 (e (recOf i s) (preOf i s)).2) := rfl

/-- A reading instruction whose load succeeds. -/
theorem run_read_ok (i : Instr) (f : Byte → Cpu → Cpu) (s t : State) (v : Byte)
    (h : load (recOf i s).operand (preOf i s) = .ok (v, t)) :
    runInstr i (readEffect f) s = .next (endsAt (pastPc i s) { t with cpu := f v t.cpu }) := by
  apply run_instr_ok
  simp only [readEffect, h]
  rfl

/-- An instruction that works on the CPU alone. -/
theorem run_cpu_ok (i : Instr) (f : Cpu → Cpu) (s : State) :
    runInstr i (cpuEffect f) s =
      .next (endsAt (pastPc i s) { preOf i s with cpu := f (preOf i s).cpu }) :=
  run_instr_ok i _ s _ rfl

end Sys2Proof.Machine
end

