-- ==== Sys2Proof/Laws/PerInstr.lean ====
section
/-! SUPPORT. Laws/PerInstr.lean: the family Table: what holds of every instruction as syntax, one lemma
per constructor. -/

namespace Sys2Proof.Laws.Table

/-- A well-formed instruction's row of the opcode table has its addressing mode and as many bytes as its
encoding; its base cycle count is at least 2; and the page-cross column is `yes` in modes ABX, ABY and
IZY only (R301, R321, R421). -/
def Statement (i : Instr) : Prop :=
  i.wellFormed = true →
    i.row.mode = i.form.mode ∧ (encode i).length = i.row.length ∧ 2 ≤ i.row.base ∧
    (i.row.page = true → i.form.mode ∈ [Mode.abx, .aby, .izy])

/-- What the lemma below checks of an opcode's row. -/
def rowOk (op : Byte) (m : Mode) : Bool :=
  decide ((opRow op).mode = m) && decide (2 ≤ (opRow op).base) &&
    (!(opRow op).page || [Mode.abx, .aby, .izy].contains m)

/-- An opcode byte and as many operand bytes as the mode takes. -/
theorem form_bytes_length (f : Form) : f.bytes.length + 1 = f.mode.length := by cases f <;> rfl

/-- The statement, from the opcode of the instruction and its row. -/
theorem statement_of (i : Instr) (op : Byte) (ho : i.opcode? = some op)
    (hr : rowOk op i.form.mode = true) : Statement i := by
  intro _
  have hrow : i.row = opRow op := by simp [Instr.row, Instr.opcode, ho]
  simp only [rowOk, Bool.and_eq_true, decide_eq_true_eq, Bool.or_eq_true, Bool.not_eq_true'] at hr
  obtain ⟨⟨hm, hb⟩, hp⟩ := hr
  rw [hrow]
  refine ⟨hm, ?_, hb, fun hpage => ?_⟩
  · rw [encode, ho, List.length_cons, form_bytes_length, OpRow.length, hm]
  · rcases hp with hp | hp
    · rw [hp] at hpage; cases hpage
    · exact List.contains_iff_mem.1 hp

/-- An ill-formed term has nothing to show. -/
theorem statement_of_ill (i : Instr) (h : i.wellFormed = false) : Statement i := by
  intro hw; rw [h] at hw; cases hw

theorem lda (f : Form) : Statement (.lda f) := by
  cases f <;> first | exact statement_of _ _ rfl rfl | exact statement_of_ill _ rfl

theorem ldx (f : Form) : Statement (.ldx f) := by
  cases f <;> first | exact statement_of _ _ rfl rfl | exact statement_of_ill _ rfl

theorem ldy (f : Form) : Statement (.ldy f) := by
  cases f <;> first | exact statement_of _ _ rfl rfl | exact statement_of_ill _ rfl

theorem sta (f : Form) : Statement (.sta f) := by
  cases f <;> first | exact statement_of _ _ rfl rfl | exact statement_of_ill _ rfl

theorem stx (f : Form) : Statement (.stx f) := by
  cases f <;> first | exact statement_of _ _ rfl rfl | exact statement_of_ill _ rfl

theorem sty (f : Form) : Statement (.sty f) := by
  cases f <;> first | exact statement_of _ _ rfl rfl | exact statement_of_ill _ rfl

theorem tax : Statement (.tax) := by
  exact statement_of _ _ rfl rfl

theorem tay : Statement (.tay) := by
  exact statement_of _ _ rfl rfl

theorem txa : Statement (.txa) := by
  exact statement_of _ _ rfl rfl

theorem tya : Statement (.tya) := by
  exact statement_of _ _ rfl rfl

theorem tsx : Statement (.tsx) := by
  exact statement_of _ _ rfl rfl

theorem txs : Statement (.txs) := by
  exact statement_of _ _ rfl rfl

theorem pha : Statement (.pha) := by
  exact statement_of _ _ rfl rfl

theorem php : Statement (.php) := by
  exact statement_of _ _ rfl rfl

theorem pla : Statement (.pla) := by
  exact statement_of _ _ rfl rfl

theorem plp : Statement (.plp) := by
  exact statement_of _ _ rfl rfl

theorem adc (f : Form) : Statement (.adc f) := by
  cases f <;> first | exact statement_of _ _ rfl rfl | exact statement_of_ill _ rfl

theorem sbc (f : Form) : Statement (.sbc f) := by
  cases f <;> first | exact statement_of _ _ rfl rfl | exact statement_of_ill _ rfl

theorem and (f : Form) : Statement (.and f) := by
  cases f <;> first | exact statement_of _ _ rfl rfl | exact statement_of_ill _ rfl

theorem ora (f : Form) : Statement (.ora f) := by
  cases f <;> first | exact statement_of _ _ rfl rfl | exact statement_of_ill _ rfl

theorem eor (f : Form) : Statement (.eor f) := by
  cases f <;> first | exact statement_of _ _ rfl rfl | exact statement_of_ill _ rfl

theorem bit (f : Form) : Statement (.bit f) := by
  cases f <;> first | exact statement_of _ _ rfl rfl | exact statement_of_ill _ rfl

theorem cmp (f : Form) : Statement (.cmp f) := by
  cases f <;> first | exact statement_of _ _ rfl rfl | exact statement_of_ill _ rfl

theorem cpx (f : Form) : Statement (.cpx f) := by
  cases f <;> first | exact statement_of _ _ rfl rfl | exact statement_of_ill _ rfl

theorem cpy (f : Form) : Statement (.cpy f) := by
  cases f <;> first | exact statement_of _ _ rfl rfl | exact statement_of_ill _ rfl

theorem inc (f : Form) : Statement (.inc f) := by
  cases f <;> first | exact statement_of _ _ rfl rfl | exact statement_of_ill _ rfl

theorem dec (f : Form) : Statement (.dec f) := by
  cases f <;> first | exact statement_of _ _ rfl rfl | exact statement_of_ill _ rfl

theorem inx : Statement (.inx) := by
  exact statement_of _ _ rfl rfl

theorem iny : Statement (.iny) := by
  exact statement_of _ _ rfl rfl

theorem dex : Statement (.dex) := by
  exact statement_of _ _ rfl rfl

theorem dey : Statement (.dey) := by
  exact statement_of _ _ rfl rfl

theorem asl (f : Form) : Statement (.asl f) := by
  cases f <;> first | exact statement_of _ _ rfl rfl | exact statement_of_ill _ rfl

theorem lsr (f : Form) : Statement (.lsr f) := by
  cases f <;> first | exact statement_of _ _ rfl rfl | exact statement_of_ill _ rfl

theorem rol (f : Form) : Statement (.rol f) := by
  cases f <;> first | exact statement_of _ _ rfl rfl | exact statement_of_ill _ rfl

theorem ror (f : Form) : Statement (.ror f) := by
  cases f <;> first | exact statement_of _ _ rfl rfl | exact statement_of_ill _ rfl

theorem jmp (f : Form) : Statement (.jmp f) := by
  cases f <;> first | exact statement_of _ _ rfl rfl | exact statement_of_ill _ rfl

theorem jsr (a : Word) : Statement (.jsr a) := by
  exact statement_of _ _ rfl rfl

theorem rts : Statement (.rts) := by
  exact statement_of _ _ rfl rfl

theorem rti : Statement (.rti) := by
  exact statement_of _ _ rfl rfl

theorem brk : Statement (.brk) := by
  exact statement_of _ _ rfl rfl

theorem bpl (d : Byte) : Statement (.bpl d) := by
  exact statement_of _ _ rfl rfl

theorem bmi (d : Byte) : Statement (.bmi d) := by
  exact statement_of _ _ rfl rfl

theorem bvc (d : Byte) : Statement (.bvc d) := by
  exact statement_of _ _ rfl rfl

theorem bvs (d : Byte) : Statement (.bvs d) := by
  exact statement_of _ _ rfl rfl

theorem bcc (d : Byte) : Statement (.bcc d) := by
  exact statement_of _ _ rfl rfl

theorem bcs (d : Byte) : Statement (.bcs d) := by
  exact statement_of _ _ rfl rfl

theorem bne (d : Byte) : Statement (.bne d) := by
  exact statement_of _ _ rfl rfl

theorem beq (d : Byte) : Statement (.beq d) := by
  exact statement_of _ _ rfl rfl

theorem clc : Statement (.clc) := by
  exact statement_of _ _ rfl rfl

theorem sec : Statement (.sec) := by
  exact statement_of _ _ rfl rfl

theorem cli : Statement (.cli) := by
  exact statement_of _ _ rfl rfl

theorem sei : Statement (.sei) := by
  exact statement_of _ _ rfl rfl

theorem cld : Statement (.cld) := by
  exact statement_of _ _ rfl rfl

theorem sed : Statement (.sed) := by
  exact statement_of _ _ rfl rfl

theorem clv : Statement (.clv) := by
  exact statement_of _ _ rfl rfl

theorem nop : Statement (.nop) := by
  exact statement_of _ _ rfl rfl

theorem lax (f : Form) : Statement (.lax f) := by
  cases f <;> first | exact statement_of _ _ rfl rfl | exact statement_of_ill _ rfl

theorem sax (f : Form) : Statement (.sax f) := by
  cases f <;> first | exact statement_of _ _ rfl rfl | exact statement_of_ill _ rfl

theorem dcp (f : Form) : Statement (.dcp f) := by
  cases f <;> first | exact statement_of _ _ rfl rfl | exact statement_of_ill _ rfl

theorem isc (f : Form) : Statement (.isc f) := by
  cases f <;> first | exact statement_of _ _ rfl rfl | exact statement_of_ill _ rfl

theorem slo (f : Form) : Statement (.slo f) := by
  cases f <;> first | exact statement_of _ _ rfl rfl | exact statement_of_ill _ rfl

theorem rla (f : Form) : Statement (.rla f) := by
  cases f <;> first | exact statement_of _ _ rfl rfl | exact statement_of_ill _ rfl

theorem sre (f : Form) : Statement (.sre f) := by
  cases f <;> first | exact statement_of _ _ rfl rfl | exact statement_of_ill _ rfl

theorem rra (f : Form) : Statement (.rra f) := by
  cases f <;> first | exact statement_of _ _ rfl rfl | exact statement_of_ill _ rfl

theorem nopAlt (op : Byte) (f : Form) : Statement (.nopAlt op f) := by
  intro h
  have hop : op ∈ nopOpcodes f.mode := List.contains_iff_mem.1 h
  refine statement_of _ op (by simp only [Instr.opcode?]; exact if_pos h) ?_ h
  clear h; cases f <;> revert op <;> simp only [Instr.form, Form.mode, nopOpcodes] <;> decide

theorem sbcAlt (b : Byte) : Statement (.sbcAlt b) := by
  exact statement_of _ _ rfl rfl

theorem anc (op : Byte) (b : Byte) : Statement (.anc op b) := by
  intro h
  have hop : op ∈ [(0x0B : Byte), 0x2B] := List.contains_iff_mem.1 h
  refine statement_of _ op (by simp only [Instr.opcode?]; exact if_pos h) ?_ h
  clear h; revert op; simp only [Instr.form, Form.mode]; decide

theorem alr (b : Byte) : Statement (.alr b) := by
  exact statement_of _ _ rfl rfl

theorem arr (b : Byte) : Statement (.arr b) := by
  exact statement_of _ _ rfl rfl

theorem sbx (b : Byte) : Statement (.sbx b) := by
  exact statement_of _ _ rfl rfl

theorem las (a : Word) : Statement (.las a) := by
  exact statement_of _ _ rfl rfl

theorem xaa (b : Byte) : Statement (.xaa b) := by
  exact statement_of _ _ rfl rfl

theorem lxa (b : Byte) : Statement (.lxa b) := by
  exact statement_of _ _ rfl rfl

theorem sha (f : Form) : Statement (.sha f) := by
  cases f <;> first | exact statement_of _ _ rfl rfl | exact statement_of_ill _ rfl

theorem shx (a : Word) : Statement (.shx a) := by
  exact statement_of _ _ rfl rfl

theorem shy (a : Word) : Statement (.shy a) := by
  exact statement_of _ _ rfl rfl

theorem tas (a : Word) : Statement (.tas a) := by
  exact statement_of _ _ rfl rfl

theorem jam (op : Byte) : Statement (.jam op) := by
  intro h
  have hop : op ∈ jamOpcodes := List.contains_iff_mem.1 h
  refine statement_of _ op (by simp only [Instr.opcode?]; exact if_pos h) ?_ h
  clear h; revert op; simp only [Instr.form, Form.mode]; decide

end Sys2Proof.Laws.Table
end

