-- ==== Sys2Proof/Tests/Slice0.lean ====
section
/-! SUPPORT. Tests/Slice0.lean: the ill-formed terms each check refuses; one word of each family, written
out from the encoding; small vectors of single instructions and operations, with the results the
spec's examples and vectors give; and a witness for the hypotheses of each statement. -/

namespace Sys2Proof.Tests

open Sys2Proof.Machine

/-! ## States to test on -/

/-- An instruction boundary at PC $8000, everything else as right after reset. -/
def idle : State := mapCpu (fun c => { c with pc := 0x8000 }) (readyToFetch State.reset)

/-- The boundary with other CPU registers. -/
def cpu (f : Cpu → Cpu) : State := mapCpu f idle

/-- A state with some bytes of console RAM. -/
def ram (cells : List (Nat × Byte)) (s : State) : State :=
  cells.foldl (fun s c => ramWrite c.1 c.2 s) s

/-- A state with bytes placed from `a` on. -/
def at' (a : Word) (bytes : List Byte) (s : State) : State := placeBytes a bytes s

/-- The state of a step that ends in one. -/
def after? (o : Host.Outcome State Fault Refusal) : Option State :=
  match o with
  | .next t => some t
  | .fault _ => none
  | .refused _ => none

/-- A, X, Y, S and P after the step. -/
def regs (o : Host.Outcome State Fault Refusal) : Option (List Byte) :=
  (after? o).map fun t => [t.cpu.a, t.cpu.x, t.cpu.y, t.cpu.s, t.cpu.p]

/-- PC after the step. -/
def pc (o : Host.Outcome State Fault Refusal) : Option Word := (after? o).map fun t => t.cpu.pc

/-- A byte of console RAM after the step. -/
def ramByte (n : Nat) (o : Host.Outcome State Fault Refusal) : Option Byte :=
  (after? o).map fun t => t.bus.ram.read n

/-- Cycles the step took. -/
def cycles (s : State) (o : Host.Outcome State Fault Refusal) : Option Nat :=
  (after? o).map fun t => t.t - s.t

/-! ## Ill-formed terms, one for each check of `wellFormed` -/

theorem test_ill_formed_read : (Instr.lda (.zpy 0)).wellFormed = false := by decide
theorem test_ill_formed_ldx : (Instr.ldx (.zpx 0)).wellFormed = false := by decide
theorem test_ill_formed_ldy : (Instr.ldy (.aby 0)).wellFormed = false := by decide
theorem test_ill_formed_sta : (Instr.sta (.imm 0)).wellFormed = false := by decide
theorem test_ill_formed_stx : (Instr.stx (.zpx 0)).wellFormed = false := by decide
theorem test_ill_formed_sty : (Instr.sty (.zpy 0)).wellFormed = false := by decide
theorem test_ill_formed_bit : (Instr.bit (.imm 0)).wellFormed = false := by decide
theorem test_ill_formed_cpx : (Instr.cpx (.zpx 0)).wellFormed = false := by decide
theorem test_ill_formed_inc : (Instr.inc .acc).wellFormed = false := by decide
theorem test_ill_formed_shift : (Instr.asl (.izx 0)).wellFormed = false := by decide
theorem test_ill_formed_jmp : (Instr.jmp (.zp 0)).wellFormed = false := by decide
theorem test_ill_formed_lax : (Instr.lax (.imm 0)).wellFormed = false := by decide
theorem test_ill_formed_sax : (Instr.sax (.abx 0)).wellFormed = false := by decide
theorem test_ill_formed_rmw : (Instr.dcp (.imm 0)).wellFormed = false := by decide
theorem test_ill_formed_nop : (Instr.nopAlt 0xEA .imp).wellFormed = false := by decide
theorem test_ill_formed_nop_mode : (Instr.nopAlt 0x04 (.abs 0)).wellFormed = false := by decide
theorem test_ill_formed_anc : (Instr.anc 0x0C 0).wellFormed = false := by decide
theorem test_ill_formed_sha : (Instr.sha (.abs 0)).wellFormed = false := by decide
theorem test_ill_formed_jam : (Instr.jam 0xA2).wellFormed = false := by decide

/-- R350: a branch reaches -128 to 127 from the address after it, and no further. -/
theorem test_branch_reach :
    branchOffset? 0x8000 0x8081 = some 0x7F ∧ branchOffset? 0x8000 0x8082 = none ∧
    branchOffset? 0x8000 0x7F82 = some 0x80 ∧ branchOffset? 0x8000 0x7F81 = none := by decide

/-! ## Words, from the opcode table (R320, R321) -/

theorem test_word_load_store :
    decodeTableWord 16 0x80A9 = some (.lda (.imm 0x80)) ∧
    decodeTableWord 24 0x12FFBC = some (.ldy (.abx 0x12FF)) ∧
    decodeTableWord 16 0xFF96 = some (.stx (.zpy 0xFF)) ∧
    decodeTableWord 8 0x9A = some .txs ∧ decodeTableWord 8 0x08 = some .php := by decide

theorem test_word_arith :
    decodeTableWord 16 0x1024 = some (.bit (.zp 0x10)) ∧
    decodeTableWord 24 0x0200DE = some (.dec (.abx 0x0200)) ∧
    decodeTableWord 8 0x4A = some (.lsr .acc) ∧ decodeTableWord 16 0x1066 = some (.ror (.zp 0x10)) ∧
    decodeTableWord 16 0x8051 = some (.eor (.izy 0x80)) := by decide

theorem test_word_control :
    decodeTableWord 24 0x900020 = some (.jsr 0x9000) ∧
    decodeTableWord 24 0x02FF6C = some (.jmp (.ind 0x02FF)) ∧
    decodeTableWord 16 0xFDD0 = some (.bne 0xFD) ∧ decodeTableWord 8 0x40 = some .rti ∧
    decodeTableWord 8 0xB8 = some .clv ∧ decodeTableWord 8 0xEA = some .nop := by decide

theorem test_word_unofficial :
    decodeTableWord 24 0x1234BF = some (.lax (.aby 0x1234)) ∧
    decodeTableWord 16 0x10C7 = some (.dcp (.zp 0x10)) ∧
    decodeTableWord 16 0x01CB = some (.sbx 0x01) ∧ decodeTableWord 16 0x7F2B = some (.anc 0x2B 0x7F) ∧
    decodeTableWord 24 0x20020C = some (.nopAlt 0x0C (.abs 0x2002)) ∧
    decodeTableWord 8 0xF2 = some (.jam 0xF2) ∧ decodeTableWord 16 0x008B = some (.xaa 0x00) ∧
    decodeTableWord 24 0x12349B = some (.tas 0x1234) := by decide

/-! ## Loads, stores, transfers and the stack: the examples of 41_load_store.md and vectors L1 to L12 -/

theorem test_lda_negative : regs (exec (.lda (.imm 0x80)) idle) = some [0x80, 0, 0, 0xFD, 0xA4] := by
  decide
theorem test_lda_zero :
    regs (exec (.lda (.imm 0)) (cpu fun c => { c with a := 0x55 })) = some [0, 0, 0, 0xFD, 0x26] := by
  decide
theorem test_ldx_zero : regs (exec (.ldx (.imm 0)) idle) = some [0, 0, 0, 0xFD, 0x26] := by decide
theorem test_ldy_indexed :
    let s := ram [(0x300, 0x7F)] (cpu fun c => { c with x := 1 })
    regs (exec (.ldy (.abx 0x12FF)) s) = some [0, 1, 0x7F, 0xFD, 0x24] ∧
    pc (exec (.ldy (.abx 0x12FF)) s) = some 0x8003 := by decide
theorem test_sta :
    ramByte 0x200 (exec (.sta (.abs 0x0200)) (cpu fun c => { c with a := 0x42 })) = some 0x42 := by decide
theorem test_stx_wraps :
    ramByte 1 (exec (.stx (.zpy 0xFF)) (cpu fun c => { c with x := 0xFF, y := 2 })) = some 0xFF := by
  decide
theorem test_sty :
    ramByte 0x10 (exec (.sty (.zp 0x10)) (cpu fun c => { c with y := 7 })) = some 7 := by decide
theorem test_tax_zero :
    regs (exec .tax (cpu fun c => { c with x := 5 })) = some [0, 0, 0, 0xFD, 0x26] := by decide
theorem test_tay : regs (exec .tay (cpu fun c => { c with a := 0x90 })) =
    some [0x90, 0, 0x90, 0xFD, 0xA4] := by decide
theorem test_txa : regs (exec .txa (cpu fun c => { c with x := 1 })) = some [1, 1, 0, 0xFD, 0x24] := by
  decide
theorem test_tya : regs (exec .tya (cpu fun c => { c with y := 0x80 })) =
    some [0x80, 0, 0x80, 0xFD, 0xA4] := by decide
theorem test_tsx : regs (exec .tsx idle) = some [0, 0xFD, 0, 0xFD, 0xA4] := by decide
theorem test_txs_no_flags : regs (exec .txs idle) = some [0, 0, 0, 0, 0x24] := by decide
theorem test_pha_wraps :
    let o := exec .pha (cpu fun c => { c with s := 0, a := 0x11 })
    ramByte 0x100 o = some 0x11 ∧ regs o = some [0x11, 0, 0, 0xFF, 0x24] := by decide
theorem test_php :
    let o := exec .php (cpu fun c => { c with p := 0xE7 })
    ramByte 0x1FD o = some 0xF7 ∧ regs o = some [0, 0, 0, 0xFC, 0xE7] := by decide
theorem test_pla_wraps :
    regs (exec .pla (ram [(0x100, 0x80)] (cpu fun c => { c with s := 0xFF }))) =
      some [0x80, 0, 0, 0, 0xA4] := by decide
theorem test_plp_all_ones :
    regs (exec .plp (ram [(0x1FD, 0xFF)] (cpu fun c => { c with s := 0xFC }))) =
      some [0, 0, 0, 0xFD, 0xEF] := by decide
theorem test_plp_all_zeros :
    regs (exec .plp (cpu fun c => { c with s := 0xFC })) = some [0, 0, 0, 0xFD, 0x20] := by decide

/-! ## Arithmetic: the examples of 42_arith_logic.md and vectors AL1 to AL17 -/

theorem test_adc_overflow :
    regs (exec (.adc (.imm 0x80)) (cpu fun c => { c with a := 0x80 })) =
      some [0, 0, 0, 0xFD, 0x67] := by decide
theorem test_adc_ignores_decimal :
    regs (exec (.adc (.imm 0x01)) (cpu fun c => { c with a := 0x09, p := 0x2C })) =
      some [0x0A, 0, 0, 0xFD, 0x2C] := by decide
theorem test_sbc_borrow :
    regs (exec (.sbc (.imm 0x01)) (cpu fun c => { c with p := 0x25 })) =
      some [0xFF, 0, 0, 0xFD, 0xA4] := by decide
theorem test_sbc_overflow :
    regs (exec (.sbc (.imm 0x01)) (cpu fun c => { c with a := 0x80, p := 0x25 })) =
      some [0x7F, 0, 0, 0xFD, 0x65] := by decide
theorem test_and : regs (exec (.and (.imm 0x0F)) (cpu fun c => { c with a := 0xF0 })) =
    some [0, 0, 0, 0xFD, 0x26] := by decide
theorem test_ora : regs (exec (.ora (.imm 0x80)) (cpu fun c => { c with a := 0x01 })) =
    some [0x81, 0, 0, 0xFD, 0xA4] := by decide
theorem test_eor : regs (exec (.eor (.imm 0x55)) (cpu fun c => { c with a := 0xAA })) =
    some [0xFF, 0, 0, 0xFD, 0xA4] := by decide
theorem test_bit : regs (exec (.bit (.zp 0x10)) (ram [(0x10, 0xC0)] (cpu fun c => { c with a := 0x0F }))) =
    some [0x0F, 0, 0, 0xFD, 0xE6] := by decide
theorem test_cmp_below : regs (exec (.cmp (.imm 0xC0)) (cpu fun c => { c with a := 0x40 })) =
    some [0x40, 0, 0, 0xFD, 0xA4] := by decide
theorem test_cmp_above : regs (exec (.cmp (.imm 0x40)) (cpu fun c => { c with a := 0xC0 })) =
    some [0xC0, 0, 0, 0xFD, 0xA5] := by decide
theorem test_cpx : regs (exec (.cpx (.imm 0x01)) idle) = some [0, 0, 0, 0xFD, 0xA4] := by decide
theorem test_cpy : regs (exec (.cpy (.imm 0xFF)) (cpu fun c => { c with y := 0xFF })) =
    some [0, 0, 0xFF, 0xFD, 0x27] := by decide
theorem test_inc :
    let o := exec (.inc (.zp 0x10)) (ram [(0x10, 0x7F)] idle)
    ramByte 0x10 o = some 0x80 ∧ regs o = some [0, 0, 0, 0xFD, 0xA4] := by decide
theorem test_dec :
    let o := exec (.dec (.abx 0x0200)) (ram [(0x210, 1)] (cpu fun c => { c with x := 0x10 }))
    ramByte 0x210 o = some 0 ∧ regs o = some [0, 0x10, 0, 0xFD, 0x26] := by decide
theorem test_inx : regs (exec .inx (cpu fun c => { c with x := 0x7F })) =
    some [0, 0x80, 0, 0xFD, 0xA4] := by decide
theorem test_iny : regs (exec .iny (cpu fun c => { c with y := 0x7F })) =
    some [0, 0, 0x80, 0xFD, 0xA4] := by decide
theorem test_dex : regs (exec .dex (cpu fun c => { c with x := 1 })) = some [0, 0, 0, 0xFD, 0x26] := by
  decide
theorem test_dey : regs (exec .dey idle) = some [0, 0, 0xFF, 0xFD, 0xA4] := by decide
theorem test_asl : regs (exec (.asl .acc) (cpu fun c => { c with a := 0x81 })) =
    some [0x02, 0, 0, 0xFD, 0x25] := by decide
theorem test_asl_memory :
    let o := exec (.asl (.zp 0x10)) (ram [(0x10, 0x80)] idle)
    ramByte 0x10 o = some 0 ∧ regs o = some [0, 0, 0, 0xFD, 0x27] := by decide
theorem test_lsr : regs (exec (.lsr .acc) (cpu fun c => { c with a := 0xFF })) =
    some [0x7F, 0, 0, 0xFD, 0x25] := by decide
theorem test_rol : regs (exec (.rol .acc) (cpu fun c => { c with a := 0x80, p := 0x25 })) =
    some [0x01, 0, 0, 0xFD, 0x25] := by decide
theorem test_ror_memory :
    let o := exec (.ror (.zp 0x10)) (ram [(0x10, 1)] (cpu fun c => { c with pc := 0, p := 0x25 }))
    ramByte 0x10 o = some 0x80 ∧ regs o = some [0, 0, 0, 0xFD, 0xA5] := by decide

/-! ## Control flow and flags: the examples of 43_control_flags.md and vectors C1 to C8 -/

theorem test_jmp : pc (exec (.jmp (.abs 0xC5F5)) idle) = some 0xC5F5 := by decide
theorem test_jmp_same_page :
    pc (exec (.jmp (.ind 0x02FF)) (ram [(0x2FF, 0x34), (0x200, 0x12), (0x300, 0x56)] idle)) =
      some 0x1234 := by decide
theorem test_jsr_wraps :
    let o := exec (.jsr 0x9000) (cpu fun c => { c with s := 0 })
    ramByte 0x100 o = some 0x80 ∧ ramByte 0x1FF o = some 0x02 ∧
    regs o = some [0, 0, 0, 0xFE, 0x24] ∧ pc o = some 0x9000 := by decide
theorem test_rts :
    let o := exec .rts (ram [(0x1FD, 0x80), (0x1FC, 0x02)] (cpu fun c => { c with s := 0xFB }))
    regs o = some [0, 0, 0, 0xFD, 0x24] ∧ pc o = some 0x8003 := by decide
theorem test_rti :
    let o := exec .rti (ram [(0x1FB, 0xFF), (0x1FC, 0x00), (0x1FD, 0xC0)] (cpu fun c => { c with s := 0xFA }))
    regs o = some [0, 0, 0, 0xFD, 0xEF] ∧ pc o = some 0xC000 := by decide
theorem test_brk :
    let o := exec .brk (at' 0xFFFE [0x00, 0x90] (cpu fun c => { c with p := 0xE3 }))
    ramByte 0x1FD o = some 0x80 ∧ ramByte 0x1FC o = some 0x02 ∧ ramByte 0x1FB o = some 0xF3 ∧
    regs o = some [0, 0, 0, 0xFA, 0xE7] ∧ pc o = some 0x9000 := by decide
theorem test_bpl : pc (exec (.bpl 0x20) (cpu fun c => { c with pc := 0x80F0 })) = some 0x8112 := by decide
theorem test_bmi_not_taken : pc (exec (.bmi 0x20) idle) = some 0x8002 := by decide
theorem test_bvc : pc (exec (.bvc 0xFE) idle) = some 0x8000 := by decide
theorem test_bvs : pc (exec (.bvs 0x80) (cpu fun c => { c with pc := 0x8010, p := 0x64 })) =
    some 0x7F92 := by decide
theorem test_bcc : pc (exec (.bcc 0x05) idle) = some 0x8007 := by decide
theorem test_bcs_not_taken : pc (exec (.bcs 0x05) idle) = some 0x8002 := by decide
theorem test_bne : pc (exec (.bne 0xFB) (cpu fun c => { c with pc := 0x8001 })) = some 0x7FFE := by decide
theorem test_beq : pc (exec (.beq 0x00) (cpu fun c => { c with pc := 0x80FD, p := 0x26 })) =
    some 0x80FF := by decide
theorem test_flag_instructions :
    regs (exec .clc (cpu fun c => { c with p := 0xEF })) = some [0, 0, 0, 0xFD, 0xEE] ∧
    regs (exec .cli (cpu fun c => { c with p := 0xEF })) = some [0, 0, 0, 0xFD, 0xEB] ∧
    regs (exec .cld (cpu fun c => { c with p := 0xEF })) = some [0, 0, 0, 0xFD, 0xE7] ∧
    regs (exec .clv (cpu fun c => { c with p := 0xEF })) = some [0, 0, 0, 0xFD, 0xAF] ∧
    regs (exec .sec (cpu fun c => { c with p := 0x20 })) = some [0, 0, 0, 0xFD, 0x21] ∧
    regs (exec .sei (cpu fun c => { c with p := 0x20 })) = some [0, 0, 0, 0xFD, 0x24] ∧
    regs (exec .sed (cpu fun c => { c with p := 0x20 })) = some [0, 0, 0, 0xFD, 0x28] := by decide
theorem test_nop : after? (exec .nop idle) = some (mapCpu (fun c => { c with pc := 0x8001 }) idle) := by
  decide

/-! ## Unofficial opcodes: the examples of 44_illegal.md and vectors U1 to U13 -/

theorem test_lax :
    regs (exec (.lax (.aby 0x1234)) (ram [(0x234, 0xAB)] idle)) = some [0xAB, 0xAB, 0, 0xFD, 0xA4] := by
  decide
theorem test_sax :
    ramByte 0x10 (exec (.sax (.zp 0x10)) (cpu fun c => { c with a := 0xF0, x := 0x3C })) = some 0x30 := by
  decide
theorem test_dcp :
    let o := exec (.dcp (.zp 0x10)) (cpu fun c => { c with a := 0xFE })
    ramByte 0x10 o = some 0xFF ∧ regs o = some [0xFE, 0, 0, 0xFD, 0xA4] := by decide
theorem test_isc :
    let o := exec (.isc (.zp 0x10)) (ram [(0x10, 0xFF)] (cpu fun c => { c with a := 5, p := 0x25 }))
    ramByte 0x10 o = some 0 ∧ regs o = some [5, 0, 0, 0xFD, 0x25] := by decide
theorem test_slo :
    let o := exec (.slo (.zp 0x10)) (ram [(0x10, 0xFF)] idle)
    ramByte 0x10 o = some 0xFE ∧ regs o = some [0xFE, 0, 0, 0xFD, 0xA5] := by decide
theorem test_rla :
    let o := exec (.rla (.zp 0x10)) (ram [(0x10, 0x40)] (cpu fun c => { c with a := 0xFF, p := 0x25 }))
    ramByte 0x10 o = some 0x81 ∧ regs o = some [0x81, 0, 0, 0xFD, 0xA4] := by decide
theorem test_sre :
    let o := exec (.sre (.zp 0x10)) (ram [(0x10, 3)] (cpu fun c => { c with a := 0xFF }))
    ramByte 0x10 o = some 1 ∧ regs o = some [0xFE, 0, 0, 0xFD, 0xA5] := by decide
theorem test_rra :
    let o := exec (.rra (.zp 0x10)) (ram [(0x10, 2)] (cpu fun c => { c with a := 0x10, p := 0x25 }))
    ramByte 0x10 o = some 0x81 ∧ regs o = some [0x91, 0, 0, 0xFD, 0xA4] := by decide
theorem test_nop_reads_status :
    let s := { idle with ppu := { idle.ppu with vblank := true, w := true } }
    (after? (exec (.nopAlt 0x0C (.abs 0x2002)) s)).map (fun t => (t.ppu.vblank, t.ppu.w)) =
      some (false, false) ∧ regs (exec (.nopAlt 0x0C (.abs 0x2002)) s) = some [0, 0, 0, 0xFD, 0x24] := by
  decide
theorem test_sbc_eb : regs (exec (.sbcAlt 0x10) (cpu fun c => { c with a := 0xF0, p := 0x25 })) =
    some [0xE0, 0, 0, 0xFD, 0xA5] := by decide
theorem test_anc : regs (exec (.anc 0x0B 0x7F) (cpu fun c => { c with a := 0xFF, p := 0x25 })) =
    some [0x7F, 0, 0, 0xFD, 0x24] := by decide
theorem test_alr : regs (exec (.alr 0x03) (cpu fun c => { c with a := 0xFF })) =
    some [0x01, 0, 0, 0xFD, 0x25] := by decide
theorem test_arr : regs (exec (.arr 0xC0) (cpu fun c => { c with a := 0xFF })) =
    some [0x60, 0, 0, 0xFD, 0x25] := by decide
theorem test_arr_overflow : regs (exec (.arr 0x80) (cpu fun c => { c with a := 0xFF })) =
    some [0x40, 0, 0, 0xFD, 0x65] := by decide
theorem test_sbx : regs (exec (.sbx 0x01) (cpu fun c => { c with a := 0x0F, x := 0xF0 })) =
    some [0x0F, 0xFF, 0, 0xFD, 0xA4] := by decide
theorem test_las : regs (exec (.las 0x1234) (ram [(0x234, 0xF0)] idle)) =
    some [0xF0, 0xF0, 0, 0xF0, 0xA4] := by decide
theorem test_jam :
    (after? (exec (.jam 0x02) idle)).map (fun t => (t.cpu.halted, t.cpu.pc)) = some (true, 0x8000) := by
  decide
theorem test_unstable_refused :
    let s := at' 0x8000 [0x8B, 0x00] idle
    let u := at' 0x8000 [0x9B, 0x00, 0x02] idle
    fetch s = .refused (.unstableOpcode 0x8B { s with refused := some (.unstableOpcode 0x8B) }) ∧
    fetch u = .refused (.unstableOpcode 0x9B { u with refused := some (.unstableOpcode 0x9B) }) :=
  ⟨rfl, rfl⟩

/-! ## Cycles and the engine: vectors E2 to E10 and I3 -/

theorem test_total_page_crossed :
    (newRecord (.lda (.abx 0x12FF)) (cpu fun c => { c with x := 1 })).1.total = 5 ∧
    (newRecord (.lda (.abx 0x12FF)) idle).1.total = 4 := by decide
theorem test_total_dma :
    (newRecord (.sta (.abs 0x4014)) { idle with t := 100 }).1.total = 518 ∧
    (newRecord (.sta (.abs 0x4014)) { idle with t := 101 }).1.total = 517 := by decide
theorem test_total_store_no_page :
    (newRecord (.sta (.abx 0x0200)) (cpu fun c => { c with x := 0xFF })).1.total = 5 ∧
    (newRecord (.sta (.abx 0x02FF)) (cpu fun c => { c with x := 0xFF })).1.total = 5 := by decide
theorem test_total_branch :
    (newRecord (.bne 0xFB) (cpu fun c => { c with pc := 0x8001 })).1.total = 4 ∧
    (newRecord (.bne 0x7F) idle).1.total = 3 ∧
    (newRecord (.bcs 0x01) (cpu fun c => { c with pc := 0x80FD, p := 0x25 })).1.total = 4 ∧
    (newRecord (.bcs 0x00) (cpu fun c => { c with pc := 0x80FD, p := 0x25 })).1.total = 3 := by decide
theorem test_indirect_indexed :
    (resolve (.izy 0x80) 0x8000
        (ram [(0x80, 0xF0), (0x81, 0x12)] (cpu fun c => { c with y := 0x20 }))).operand = .address 0x1310 ∧
    (resolve (.izx 0xFF) 0x8000 (ram [(0xFF, 0x34), (0x00, 0x12)] idle)).operand = .address 0x1234 := by
  decide
theorem test_index_wraps :
    (resolve (.zpx 0xFF) 0x8000 (cpu fun c => { c with x := 1 })).operand = .address 0x0000 ∧
    (resolve (.abx 0xFFFF) 0x8000 (cpu fun c => { c with x := 2 })).operand = .address 0x0001 := by decide
theorem test_nmi_before_irq :
    let s := { cpu (fun c => { c with nmiPending := true }) with
      apu := { idle.apu with seq := { idle.apu.seq with frameIrq := true } } }
    pollResult .nop s = some .nmi ∧ pollResult .nop { s with cpu := { s.cpu with nmiPending := false } } = none ∧
    pollResult .nop { s with cpu := { s.cpu with nmiPending := false, p := 0x20 } } = some .irq := by decide
theorem test_sequence_pushes :
    let t := completeSeq .nmi (Inflight.reset 0) (cpu fun c => { c with p := 0xE3 })
    t.bus.ram.read 0x1FD = 0x80 ∧ t.bus.ram.read 0x1FC = 0x00 ∧ t.bus.ram.read 0x1FB = 0xE3 ∧
    t.cpu.p = 0xE7 := by decide
theorem test_step_first_instruction :
    let s := State.withFetchWord State.reset 16 0x80A9
    regs (step s) = some [0x80, 0, 0, 0xFD, 0xA4] ∧ cycles s (step s) = some 2 ∧
    pc (step s) = some 0x0002 := by decide

/-! ## The bus, the PPU, the APU, the mappers and the controllers: vectors L10 to K2 -/

theorem test_ram_mirror :
    (after? (exec (.sta (.abs 0x0800)) (cpu fun c => { c with a := 0x9C }))).map
      (fun t => (memRead 0x1800 t).1) = some 0x9C := by decide
theorem test_write_only_register :
    (memRead 0x2000 { idle with bus := { idle.bus with ppuLatch := 0x3C } }).1 = 0x3C ∧
    (memRead 0x4000 { idle with bus := { idle.bus with apuLatch := 0x07 } }).1 = 0x07 := by decide
theorem test_palette_alias :
    (memWrite 0x2007 0x2A { idle with ppu := { idle.ppu with v := 0x3F10, ctrl := 0x04 } }).toOption.map
      (fun t => (palRead t.ppu.pal 0, t.ppu.v)) = some (0x2A, 0x3F30) := by decide
theorem test_palette_read :
    (memRead 0x2007 { idle with
      ppu := { idle.ppu with v := 0x3F00, pal := [(0, 0x0F)] }
      bus := { idle.bus with ppuLatch := 0xC5 } }).1 = 0xCF := by decide
theorem test_oam_attribute_read :
    oamRead { idle.ppu with oamaddr := 2, oam := [(2, 0xFF)] } = 0xE3 := by decide
theorem test_ninth_sprite :
    let oam : Nat → Mem := fun n => (List.range 64).foldl
      (fun m i => m.write (4 * i) (if i < n then 0x10 else 0xFF)) []
    let eval := fun n => spriteEval 16 { idle.ppu with mask := 0x18, oam := oam n }
    ((eval 9).eval.map (·.index) = [0, 1, 2, 3, 4, 5, 6, 7] ∧ (eval 9).overflow = true) ∧
    (eval 8).eval.length = 8 ∧ (eval 8).overflow = false := by decide +kernel
theorem test_vblank_raises_nmi :
    let s := dotAndDetect { idle with ppu := { idle.ppu with line := 241, dot := 1, ctrl := 0x80 } }
    s.ppu.vblank = true ∧ s.cpu.nmiPending = true := by decide
theorem test_odd_frame_skip :
    let p := { idle.ppu with line := 261, dot := 339, frame := 1, mask := 0x08 }
    (advance { idle with ppu := p }).ppu.line = 0 ∧ (advance { idle with ppu := p }).ppu.dot = 0 := by
  decide
theorem test_length_load :
    let u := apuRegWrite 0 3 0x08 (apuRegWrite 0 0x15 0x01 Apu.powerUp)
    u.p1.length = 254 ∧ u.p1.seq = 0 ∧ u.p1.env.start = true ∧
    (apuRegWrite 0 3 0x08 Apu.powerUp).p1.length = 0 := by decide
theorem test_frame_counter_reset :
    let u := apuRegWrite 100 0x17 0x80 Apu.powerUp
    u.seq.resetDelay = some 2 ∧ (frameSeqStep (frameSeqStep u)).seq.fc = 0 ∧
    (apuRegWrite 101 0x17 0x80 Apu.powerUp).seq.resetDelay = some 3 := by decide
theorem test_mix :
    mixPulse 0 = 0 ∧ mixTnd 0 0 0 = 0 ∧ mixPulse 15 = 0x3E18F63D ∧ mixTnd 15 0 0 = 0x3E7C5370 := by
  decide +kernel
theorem test_noise_length_write :
    let n := Apu.powerUp.noise
    noiseWrite 3 0x08 n = n ∧
    ((noiseWrite 3 0x08 { n with enabled := true }).length,
      (noiseWrite 3 0x08 { n with enabled := true }).env.start) = (254, true) := by decide
theorem test_noise_clock :
    lfsrClock false 1 = 0x4000 ∧ lfsrClock false 0x4000 = 0x2000 ∧ lfsrClock true 1 = 0x4000 := by decide
theorem test_sample_registers :
    (dmcWrite 2 0xFF Apu.powerUp.dmc).sampleAddr = 0xFFC0 ∧
    (dmcWrite 3 0xFF Apu.powerUp.dmc).sampleLen = 0xFF1 := by decide
theorem test_mmc1_load :
    mmc1After [(0x8000, 1), (0x8000, 0), (0xA000, 0), (0xC000, 1), (0xE000, 0)]
      ⟨0x10, 0x0C, 0, 0, 0⟩ = ⟨0x10, 0x0C, 0, 0, 9⟩ := by decide
theorem test_mmc3_counter :
    let m := (match Mapper.powerUp .vertical (.mmc3 ⟨0, false, false, 0, 0, 0, 0, 0, 0, 0, 0, .vertical,
        0, 0, 0, false, false, false⟩) with
      | .mmc3 m => [1, 2, 3, 4].map fun n =>
          let k := mmc3After n (((m.write 0xC000 2).write 0xC001 0).write 0xE001 0)
          (k.irqCounter, k.irqPending)
      | _ => [])
    m = [(2, false), (1, false), (0, true), (2, true)] := by decide
theorem test_rom_write_faults :
    let c : State := { idle with cart := { idle.cart with chrLen := 8192 } }
    memWrite 0x8000 0 idle = .error (.romWrite { idle with fault := some .romWrite }) ∧
    memWrite 0x2007 0x12 c = .error (.romWrite
      { c with bus := { c.bus with ppuLatch := 0x12 }, fault := some .romWrite }) ∧
    ((memWrite 0x2007 0x12 idle).toOption.map fun t => t.cart.chrRam.read 0) = some 0x12 := by decide
/-- ASL $8000 on NROM faults in its sixth cycle (R1501): the five before have their devices' steps; in
the sixth the count, the read and the C of the shift stand, and T, PC and the record have not moved
on. -/
theorem test_fault_state :
    let s := runCycles 8 (at' 0x0000 [0x0E, 0x00, 0x80] (cpu fun c => { c with pc := 0, p := 0x25 }))
    s.fault = some .romWrite ∧ s.cpu.p = 0x24 ∧ s.t = 5 ∧ s.ppu.dot = 15 ∧ s.cpu.pc = 0x0000 ∧
    s.cpu.inflight.map (fun r => (r.elapsed, r.total)) = some (6, 6) := by decide
theorem test_uxrom_banks :
    let c : Cart := { Cart.blank with prgLen := 65536, mapper := .uxrom 6 }
    c.prgOffset 0x8000 = 2 * 16384 ∧ c.prgOffset 0xC000 = 3 * 16384 := by decide
theorem test_loader_refuses_mapper_5 :
    loadCart 5 .vertical [] [] = .error (.unacceptableImage 5) := by decide
theorem test_controller_reads :
    let s := controllerWrite 0 (controllerWrite 1 (idle.withButtons 0x09 0))
    (List.range 10).map (fun n => (memRead 0x4016 (afterReads 0x4016 n s)).1) =
      [0x41, 0x40, 0x40, 0x41, 0x40, 0x40, 0x40, 0x40, 0x41, 0x41] := by decide

/-! ## Witnesses: for each statement with hypotheses, states and operands that meet them -/

/-- A record of `i` with `e` of `n` cycles done. -/
def rec (i : Instr) (o : Operand) (e n : Nat) : Inflight :=
  { kind := .op i, pc0 := 0x8000, operand := o, taken := false, hijacked := false, total := n, elapsed := e }

/-- The boundary with that record in flight. -/
def flying (r : Inflight) : State := setInflight r idle

/-- A cartridge of each kind has a power-up state. -/
theorem test_witness_power_cycle_devices :
    mapperOfNumber 0 = some .nrom ∧ (∃ m, mapperOfNumber 1 = some (.mmc1 m)) ∧
    (∃ b, mapperOfNumber 2 = some (.uxrom b)) ∧ (∃ b, mapperOfNumber 3 = some (.cnrom b)) ∧
    (∃ m, mapperOfNumber 4 = some (.mmc3 m)) ∧ ∃ b g, mapperOfNumber 7 = some (.axrom b g) :=
  ⟨rfl, ⟨_, rfl⟩, ⟨_, rfl⟩, ⟨_, rfl⟩, ⟨_, rfl⟩, ⟨_, _, rfl⟩⟩

theorem test_witness_decode_of_encode :
    (Instr.sta (.izy 0xFF)).wellFormed = true ∧ (Instr.nopAlt 0xFC (.abx 0xFFFF)).wellFormed = true ∧
    (Instr.jam 0xF2).wellFormed = true := by decide

theorem test_witness_operand_primitives :
    ∃ t, memWrite 0x10 (plusOne (memRead 0x10 idle).1 (memRead 0x10 idle).2.cpu).1
      { (memRead 0x10 idle).2 with
        cpu := (plusOne (memRead 0x10 idle).1 (memRead 0x10 idle).2.cpu).2 } = .ok t := ⟨_, rfl⟩

theorem test_witness_cycles :
    (Instr.lda (.abx 0x12FF)).wellFormed = true ∧ (Instr.bne 0xFB).form.mode = .rel ∧
    (Instr.isc (.izx 0xFF)).wellFormed = true := by decide

theorem test_witness_fetch :
    idle.cpu.intReq = none ∧
    (opRow (memRead 0x8000 (at' 0x8000 [0x8B] idle)).1).cls = .unstable ∧
    ((opRow (memRead 0x8000 (at' 0x8000 [0xEA] idle)).1).cls ≠ .unstable ∧
      (opRow (memRead 0x8000 (at' 0x8000 [0xEA] idle)).1).length = 1) ∧
    ((opRow (memRead 0x8000 (at' 0x8000 [0xA9] idle)).1).cls ≠ .unstable ∧
      (opRow (memRead 0x8000 (at' 0x8000 [0xA9] idle)).1).length = 2) ∧
    (opRow (memRead 0x8000 (at' 0x8000 [0x4C] idle)).1).cls ≠ .unstable ∧
    (opRow (memRead 0x8000 (at' 0x8000 [0x4C] idle)).1).length = 3 := by decide

theorem test_witness_final_cycle :
    let r := rec .nop .implicit 1 2
    let s := flying r
    s.fault = none ∧ s.refused = none ∧ s.cpu.halted = false ∧ s.cpu.dmcStall = 0 ∧
    s.cpu.inflight = some r ∧ r.kind = .op .nop ∧ r.elapsed + 1 = r.total := by decide

theorem test_witness_decoded_instruction :
    let s := at' 0x8000 [0xEA] idle
    (s.fault = none ∧ s.refused = none ∧ s.cpu.halted = false ∧ s.cpu.dmcStall = 0 ∧
      s.cpu.inflight = none ∧ s.cpu.intReq = none ∧ Instr.nop.wellFormed = true) ∧
    fetch s = .next (issue .nop s) ∧ s.apu.dmc.bytesRemaining = 0 ∧
    ∃ m r, StaysInFlight 1 s m ∧ m.cpu.inflight = some r ∧ m.cpu.dmcStall = 0 ∧
      r.elapsed + 1 = r.total :=
  ⟨by decide, rfl, rfl, _, _, ⟨_, rfl, rfl, rfl⟩, rfl, rfl, rfl⟩

theorem test_witness_stall_and_halt :
    let s := cpu fun c => { c with dmcStall := 4 }
    let h := cpu fun c => { c with halted := true }
    (s.cpu.halted = false ∧ 0 < s.cpu.dmcStall) ∧
    h.cpu.halted = true ∧ h.fault = none ∧ h.refused = none ∧ apuInRange h = true := by decide

theorem test_witness_polls :
    let n := cpu fun c => { c with nmiPending := true }
    let q : State := { cpu (fun c => { c with p := 0x20 }) with
      apu := { idle.apu with seq := { idle.apu.seq with frameIrq := true } } }
    (Inflight.reset 0).kind = .seq .reset ∧ (rec .brk .implicit 6 7).kind = .op .brk ∧
    (rec .nop .implicit 1 2).kind = .op .nop ∧ Instr.nop ≠ .brk ∧ n.cpu.nmiPending = true ∧
    (q.cpu.nmiPending = false ∧ q.apu.seq.frameIrq = true ∧ ¬ q.cpu.p.getLsbD 2 = true) ∧
    (idle.cpu.nmiPending = false ∧ idle.cpu.p.getLsbD 2 = true) ∧
    (Instr.bne 0).form.mode = .rel ∧ (rec (.bne 0) (.relative 0x8002) 1 2).total = 2 ∧
    (rec (.bne 0) (.relative 0x8002) 1 3).total = 3 ∧ (rec (.bne 0) (.relative 0x8002) 3 4).total = 4 := by
  decide

theorem test_witness_interrupt_start :
    (cpu fun c => { c with intReq := some .nmi }).cpu.intReq = some .nmi ∧
    (cpu fun c => { c with intReq := some .irq }).cpu.intReq = some .irq := by decide

/-- The addresses where the clauses of the bus map meet, and a write of each kind in cartridge space. -/
theorem test_witness_bus_routing :
    (0x1FFF : Word).toNat < 0x2000 ∧ (0x2000 ≤ (0x2000 : Word).toNat ∧ (0x3FFF : Word).toNat < 0x4000) ∧
    (0x4000 ≤ (0x4000 : Word).toNat ∧ (0x4013 : Word).toNat ≤ 0x4013) ∧
    (0x4000 ≤ (0x4017 : Word).toNat ∧ (0x4017 : Word).toNat ≤ 0x4017 ∧ (0x4017 : Word) ≠ 0x4014 ∧
      (0x4017 : Word) ≠ 0x4016) ∧
    (0x4018 ≤ (0x4018 : Word).toNat ∧ (0x5FFF : Word).toNat < 0x6000) ∧
    0x6000 ≤ (0x6000 : Word).toNat ∧
    (∃ c, idle.cart.cpuWrite 0x7FFF 1 = .ok c) ∧ idle.cart.cpuWrite 0x8000 1 = .error .romWrite :=
  ⟨by decide, by decide, by decide, by decide, by decide, by decide, ⟨_, rfl⟩, rfl⟩

theorem test_witness_read_after_write :
    ((0x1FFF : Word).toNat < 0x2000 ∧ (0x07FF : Word).toNat < 0x2000 ∧
      (0x1FFF : Word).toNat % 2048 = (0x07FF : Word).toNat % 2048) ∧
    (0x6000 ≤ (0x6000 : Word).toNat ∧ (0x6000 : Word).toNat < 0x8000) ∧
    0x6000 ≤ (0x7FFF : Word).toNat ∧ (0x7FFF : Word).toNat < 0x8000 := by decide

theorem test_witness_open_bus :
    (∃ t, memWrite 0x2000 0x5A idle = .ok t) ∧ (∃ t, memWrite 0x3FFE 0x5A idle = .ok t) ∧
    (∃ t, memWrite 0x4017 0x5A idle = .ok t) ∧ (∃ t, memWrite 0x4000 0x5A idle = .ok t) ∧
    (0x2002 : Word).toNat % 8 ∈ [2, 4, 7] ∧ (0x3FFF : Word).toNat % 8 ∈ [2, 4, 7] ∧
    (0x2000 : Word).toNat % 8 ∈ [0, 1, 3, 5, 6] ∧ (0x3FFE : Word).toNat % 8 ∈ [0, 1, 3, 5, 6] :=
  ⟨⟨_, rfl⟩, ⟨_, rfl⟩, ⟨_, rfl⟩, ⟨_, rfl⟩, by decide, by decide, by decide, by decide⟩

theorem test_witness_rom_write :
    storable 0x7FFF idle = true ∧ storable 0x8000 idle = false ∧ storable 0x2007 idle = true ∧
    storable 0x3FFF { idle with cart := { idle.cart with chrLen := 8192 } } = false ∧
    writesMemory (.sta (.abs 0x8000)) = true ∧ (Instr.sta (.abs 0x8000)).wellFormed = true ∧
    recordFits (.sta (.abs 0x8000)) idle = true ∧ writeAllowed (.sta (.abs 0x8000)) idle = false := by
  decide

theorem test_witness_oam_dma :
    (0x1F : Byte).toNat < 0x20 ∧ 0x60 ≤ (0x60 : Byte).toNat ∧ 0x60 ≤ (0xFF : Byte).toNat := by decide

theorem test_witness_read_frame :
    (0x1FFF : Word).toNat < 0x2000 ∧ 0x4000 ≤ (0x4000 : Word).toNat ∧ 0x6000 ≤ (0x6000 : Word).toNat := by
  decide

theorem test_witness_write_frame :
    (∃ t, memWrite 0x1FFF 1 idle = .ok t) ∧ storesRam 0x1FFF 0x7FF ∧ storesPrgRam 0x7FFF 0x1FFF ∧
    (isPpuReg 0x3FFC 4 ∧ storesOam 0x3FFC idle 0) ∧ storesOam 0x4014 idle 0xFF ∧
    storesVram 0x2007 { idle with ppu := { idle.ppu with v := 0x3EFF } } 0x6FF ∧
    storesPal 0x2007 { idle with ppu := { idle.ppu with v := 0x3F00 } } 0 ∧
    storesChrRam 0x2007 { idle with ppu := { idle.ppu with v := 0x1FFF } } 0x1FFF :=
  ⟨⟨_, rfl⟩, ⟨by decide, rfl⟩, ⟨by decide, by decide, rfl⟩, ⟨⟨by decide, by decide, rfl⟩, .inl
    ⟨⟨by decide, by decide, rfl⟩, rfl⟩⟩, .inr rfl, ⟨⟨by decide, by decide, rfl⟩, by decide, by decide, rfl⟩,
    ⟨⟨by decide, by decide, rfl⟩, by decide, rfl⟩, ⟨by decide, by decide, rfl⟩, by decide, rfl, rfl⟩

/-- `i` is well-formed, and what is in flight is a record of it: nothing, and one made for it. -/
def Fits (i : Instr) : Prop :=
  i.wellFormed = true ∧ recordFits i idle = true ∧ recordFits i (flying (newRecord i idle).1) = true

/-- `Fits`, and its write reaches no read-only storage. -/
def FitsStoring (i : Instr) : Prop := Fits i ∧ writeAllowed i idle = true

theorem test_witness_loads :
    Fits (.lda (.izy 0)) ∧ Fits (.ldx (.aby 0)) ∧ Fits (.ldy (.abx 0)) ∧ Fits (.lax (.zpy 0)) ∧
    Fits (.las 0) := by unfold Fits; decide

theorem test_witness_arithmetic :
    Fits (.adc (.imm 0)) ∧ Fits (.sbc (.izx 0)) ∧ Fits (.sbcAlt 0) := by unfold Fits; decide

theorem test_witness_logic :
    Fits (.and (.zp 0)) ∧ Fits (.ora (.zpx 0)) ∧ Fits (.eor (.abs 0)) ∧ Fits (.bit (.abs 0)) ∧
    Fits (.cmp (.abx 0)) ∧ Fits (.cpx (.imm 0)) ∧ Fits (.cpy (.zp 0)) := by unfold Fits; decide

theorem test_witness_immediate_unofficial :
    Fits (.anc 0x2B 0) ∧ Fits (.alr 0) ∧ Fits (.arr 0) ∧ Fits (.sbx 0) := by unfold Fits; decide

theorem test_witness_stores :
    FitsStoring (.sta (.izy 0)) ∧ FitsStoring (.stx (.zpy 0)) ∧ FitsStoring (.sty (.abs 0)) ∧
    FitsStoring (.sax (.izx 0)) := by unfold FitsStoring Fits; decide

theorem test_witness_shifts :
    (Fits (.asl .acc) ∧ Fits (.lsr .acc) ∧ Fits (.rol .acc) ∧ Fits (.ror .acc)) ∧
    FitsStoring (.asl (.zp 0)) ∧ FitsStoring (.lsr (.zpx 0)) ∧ FitsStoring (.rol (.abs 0)) ∧
    FitsStoring (.ror (.abx 0)) := by unfold FitsStoring Fits; decide

theorem test_witness_memory_rmw :
    FitsStoring (.inc (.zp 0)) ∧ FitsStoring (.dec (.abx 0)) ∧ FitsStoring (.dcp (.izx 0)) ∧
    FitsStoring (.isc (.izy 0)) ∧ FitsStoring (.slo (.aby 0)) ∧ FitsStoring (.rla (.zpx 0)) ∧
    FitsStoring (.sre (.abs 0)) ∧ FitsStoring (.rra (.zp 0)) := by unfold FitsStoring Fits; decide

theorem test_witness_jumps :
    Fits (.jmp (.abs 0)) ∧ Fits (.jmp (.ind 0x02FF)) ∧ Fits (.jsr 0x9000) ∧ idle.cpu.inflight = none := by
  unfold Fits; decide

theorem test_witness_branches :
    (Instr.beq 0x80) ∈ [Instr.bpl 0x80, .bmi 0x80, .bvc 0x80, .bvs 0x80, .bcc 0x80, .bcs 0x80, .bne 0x80,
      .beq 0x80] ∧ Fits (.beq 0x80) ∧ idle.cpu.inflight = none := by unfold Fits; decide

theorem test_witness_unofficial_nops :
    (Fits (.nopAlt 0x0C (.abs 0x2002)) ∧ (recOf (.nopAlt 0x0C (.abs 0x2002)) idle).operand = .address 0x2002) ∧
    (Fits (.nopAlt 0x80 (.imm 0)) ∧ (recOf (.nopAlt 0x80 (.imm 0)) idle).operand = .immediate 0) ∧
    Fits (.nopAlt 0x1A .imp) := by unfold Fits; decide

theorem test_witness_unstable :
    let s := at' 0x8000 [0x93] idle
    s.cpu.intReq = none ∧ (memRead s.cpu.pc s).1 ∈ [(0x8B : Byte), 0xAB, 0x93, 0x9F, 0x9E, 0x9C, 0x9B] := by
  decide

/-- The frames of an instruction: a load, a push, a store and a shift of A, each ending in a next
state; and what each of their clauses asks of the instruction. -/
theorem test_witness_frames :
    (Fits (.lda (.imm 0)) ∧ Fits .brk ∧ Fits (.sta (.abs 0)) ∧ Fits (.asl .acc) ∧ Fits .plp) ∧
    (∃ t, exec (.lda (.imm 0)) idle = .next t) ∧ (∃ t, exec .brk idle = .next t) ∧
    (∃ t, exec (.sta (.abs 0)) idle = .next t) ∧ (∃ t, exec (.asl .acc) idle = .next t) ∧
    (∃ t, exec .plp idle = .next t) ∧
    (writesX (.lda (.imm 0)) = false ∧ writesY (.lda (.imm 0)) = false ∧ writesS (.lda (.imm 0)) = false ∧
      writesA (.sta (.abs 0)) = false ∧ writesNZ (.sta (.abs 0)) = false ∧ writesV (.lda (.imm 0)) = false ∧
      writesD .brk = false ∧ writesI (.lda (.imm 0)) = false ∧ writesC (.lda (.imm 0)) = false) ∧
    (writesMemory (.lda (.imm 0)) = false ∧ pushes (.lda (.imm 0)) = false ∧ pushes .brk = true ∧
      writesMemory (.sta (.abs 0)) = true ∧ writesMemory (.asl .acc) = true) ∧
    (recOf (.sta (.abs 0)) idle).operand = .address 0 ∧
    (recOf (.asl .acc) idle).operand = .accumulator :=
  ⟨by unfold Fits; decide, ⟨_, rfl⟩, ⟨_, rfl⟩, ⟨_, rfl⟩, ⟨_, rfl⟩, ⟨_, rfl⟩, by decide, by decide, by decide,
    by decide⟩

theorem test_witness_devices : apuInRange idle = true ∧ idle.cpu.nmiPending = false ∧
    (cpu fun c => { c with nmiPending := true }).cpu.nmiPending = true := by decide

theorem test_witness_ppu_reads :
    let at4 := fun d => { idle.ppu with line := 241, dot := d }
    ((at4 1).line = 241 ∧ (at4 1).dot = 1) ∧ ((at4 2).line = 241 ∧ ((at4 2).dot = 2 ∨ (at4 2).dot = 3)) ∧
    ¬ ((at4 4).dot = 2 ∨ (at4 4).dot = 3) ∧ ¬ ((240 : Nat) = 241 ∧ (1 : Nat) = 1) ∧
    (vramAddress { idle with ppu := { idle.ppu with v := 0x3EFF } }).toNat < 0x3F00 ∧
    0x3F00 ≤ (vramAddress { idle with ppu := { idle.ppu with v := 0x7F00 } }).toNat := by
  unfold vramAddress; decide

theorem test_witness_ppu_writes :
    (idle.ppu.w = false ∧ ({ idle.ppu with w := true } : Ppu).w = true) ∧
    let p := { idle.ppu with ctrl := 0x80, line := 241, dot := 3 }
    (p.ctrl.getLsbD 7 = true ∧ (0x00 : Byte).getLsbD 7 = false ∧ p.line = 241 ∧ (p.dot = 2 ∨ p.dot = 3)) ∧
    ¬ idle.ppu.ctrl.getLsbD 7 = true := by decide

theorem test_witness_mirror :
    0x2000 ≤ (0x2000 : BitVec 14).toNat ∧ (0x2000 : BitVec 14).toNat ≤ 0x3EFF ∧
    0x2000 ≤ (0x3EFF : BitVec 14).toNat ∧ (0x3EFF : BitVec 14).toNat ≤ 0x3EFF := by decide

theorem test_witness_sprites :
    (idle.ppu.mask.getLsbD 3 = false ∧ idle.ppu.mask.getLsbD 4 = false) ∧
    ((0x08 : Byte).getLsbD 3 = true ∧ (0x10 : Byte).getLsbD 4 = true) := by decide

/-- The position comes round from (261,340), and from (261,339) where the dot is skipped. -/
theorem test_witness_position :
    let p := fun d => { idle.ppu with line := 261, dot := d, frame := 1, mask := 0x08 }
    ((p 340).line < 262 ∧ (p 340).dot < 341 ∧ ((p 340).line * 341 + (p 340).dot + 1) % 89342 = 0) ∧
    ((p 339).dot = 339 ∧ (p 339).frame % 2 = 1 ∧ (p 339).mask.getLsbD 3 = true) ∧
    ((p 0).line * 341 + (p 0).dot + 1) % 89342 ≠ 0 := by decide

theorem test_witness_apu_enable :
    (0x10 : Byte).getLsbD 4 = true ∧ (0x00 : Byte).getLsbD 4 = false ∧
    Apu.powerUp.dmc.bytesRemaining = 0 ∧
    (writeChannelEnable 0x10 Apu.powerUp).dmc.bytesRemaining ≠ 0 := by decide

theorem test_witness_dmc_reader :
    let s := { idle with apu := writeChannelEnable 0x10 idle.apu }
    (s.apu.dmc.buffer = none ∧ s.apu.dmc.bytesRemaining ≠ 0 ∧ 0x8000 ≤ s.apu.dmc.curAddr.toNat) ∧
    idle.apu.dmc.bytesRemaining = 0 := by decide

theorem test_witness_frame_sequencer :
    Apu.powerUp.seq.resetDelay = none ∧ Apu.powerUp.seq.fc = 0 ∧ Apu.powerUp.seq.mode = false ∧
    (0 ≤ 29829 ∧ 29827 ≤ 29829 ∧ 29828 ≤ 29829) := by decide

theorem test_witness_controllers :
    (0x01 : Byte).getLsbD 0 = true ∧ (0xFE : Byte).getLsbD 0 = false ∧
    ∃ s1 s2, memWrite 0x4016 0x01 idle = .ok s1 ∧ memWrite 0x4016 0xFE s1 = .ok s2 :=
  ⟨by decide, by decide, _, _, rfl, rfl⟩

theorem test_witness_banks :
    let c : Cart := { Cart.blank with mapper := .axrom 7 true }
    (0 < c.prgLen ∧ c.prgLen % 16384 = 0 ∧ c.hasPrgBank = true) ∧ c.chrLen % 8192 = 0 ∧
    (8191 < 8192) := by decide

theorem test_witness_mapper_registers :
    let m : Mmc3 := ⟨0, false, false, 0, 0, 0, 0, 0, 0, 0, 0, .vertical, 0, 0xFF, 0, false, true, false⟩
    ((⟨0x10, 0x0C, 0, 0, 0⟩ : Mmc1).shift = 0x10 ∧ ∀ d ∈ [(0x7F : Byte), 0, 0, 1, 0], d.getLsbD 7 = false) ∧
    (0x9FFF / 8192 % 4 = 0 ∧ 0xA000 / 8192 % 4 = 1 ∧ 0xDFFF / 8192 % 4 = 2 ∧ 0xE000 / 8192 % 4 = 3) ∧
    (0x80 : Byte).getLsbD 7 = true ∧
    (m.irqCounter = 0 ∧ m.irqEnabled = true ∧ m.irqPending = false ∧ 256 ≤ m.irqLatch.toNat + 1) := by
  decide

theorem test_witness_invariants :
    State.reset.memWf = true ∧ State.reset.Inv ∧ State.reset.fault = none ∧ State.reset.refused = none ∧
    ∃ t, step State.reset = .next t :=
  ⟨by decide, by unfold State.Inv; decide, rfl, rfl, _, rfl⟩

/-- The two stops of `OnlyTheSpecsStops` are reached: a store to NROM, and a set U opcode. -/
theorem test_stops_reached :
    (∃ t, step (State.withFetchWord State.reset 24 0x80008D) = .fault (.romWrite t)) ∧
    ∃ t, step (State.withFetchWord State.reset 16 0x008B) = .refused (.unstableOpcode 0x8B t) :=
  ⟨⟨_, rfl⟩, ⟨_, rfl⟩⟩

/-- A CPU step that stops, each way, from a state with no mark; and a state with each mark. -/
theorem test_witness_stops :
    let r := rec (.sta (.abs 0x8000)) (.address 0x8000) 3 4
    let m : State := { idle with fault := some .romWrite }
    let n : State := { idle with refused := some (.unstableOpcode 0x8B) }
    ((flying r).fault = none ∧ (flying r).refused = none ∧ ∃ t, cpuStep (flying r) = .fault (.romWrite t)) ∧
    (∃ t, cpuStep (at' 0x8000 [0x8B] idle) = .refused (.unstableOpcode 0x8B t)) ∧
    m.fault ≠ none ∧ n.refused ≠ none :=
  ⟨⟨rfl, rfl, _, rfl⟩, ⟨_, rfl⟩, by decide, by decide⟩

end Sys2Proof.Tests
end

/-! ## Support for 10_state.md: what an access to the CPU bus leaves alone -/

namespace Sys2Proof.Machine

/-- The CPU with the interrupt latches blanked. They are all of the CPU that a register access can
change (R1031, R1091). -/
def Cpu.still (c : Cpu) : Cpu := { c with nmiPending := false, intReq := none }

/-- The PPU without its registers and memories: what a CPU-bus access leaves of it. -/
def Ppu.fixed (p : Ppu) : Ppu :=
  { p with
    ctrl := 0, mask := 0, vblank := false, oamaddr := 0, v := 0, t := 0, x := 0, w := false
    rdbuf := 0, oam := [], pal := [], suppressVbl := false, lastA12 := false }

/-- The cartridge without its RAMs and its mapper: the images the loader gave (R1401). -/
def Cart.fixed (c : Cart) : Cart := { c with prgRam := [], chrRam := [], mapper := .nrom }

/-- The machine with everything blanked that an instruction can change: the CPU, the APU, the bus, and
what `Ppu.fixed` and `Cart.fixed` blank. -/
def State.fixed (s : State) : State :=
  { s with
    cpu := Cpu.powerUp, apu := Apu.powerUp, bus := Bus.powerUp Fill.blank, draws := 0
    cart := s.cart.fixed, ppu := s.ppu.fixed }

/-! ### The APU's and the controllers' ranges, part by part -/

/-- The DMC's fields are in range (R1271, R1276). -/
def Dmc.InRange (c : Dmc) : Prop :=
  0x8000 ≤ c.curAddr.toNat ∧ 0xC000 ≤ c.sampleAddr.toNat ∧ 1 ≤ c.bitsRemaining ∧ c.bitsRemaining ≤ 8

/-- A pending reset of the frame sequencer is 1 to 3 cycles away (R1240). -/
def FrameSeq.InRange (f : FrameSeq) : Prop := ∀ k, f.resetDelay = some k → 1 ≤ k ∧ k ≤ 3

/-- The APU's part of `apuInRange`. -/
def Apu.InRange (u : Apu) : Prop := u.dmc.InRange ∧ u.noise.lfsr ≠ 0 ∧ u.seq.InRange

/-- The controllers' part of `apuInRange` (R1511). -/
def Bus.InRange (b : Bus) : Prop := b.count1 ≤ 8 ∧ b.count2 ≤ 8

theorem apuInRange_iff (s : State) : apuInRange s = true ↔ s.apu.InRange ∧ s.bus.InRange := by
  unfold apuInRange Apu.InRange Dmc.InRange FrameSeq.InRange Bus.InRange
  cases s.apu.seq.resetDelay <;> simp [and_assoc]

/-! ### The two relations -/

/-- What every instruction keeps of everything but the CPU: the fixed part of the machine, and the ranges
of the APU and the controllers. -/
structure DevicesKept (s t : State) : Prop where
  fixed : t.fixed = s.fixed
  range : apuInRange s = true → apuInRange t = true

/-- What a read or write of the CPU bus keeps: of the CPU, everything but the interrupt latches. -/
structure BusAccess (s t : State) : Prop extends DevicesKept s t where
  cpu : t.cpu.still = s.cpu.still

theorem DevicesKept.refl (s : State) : DevicesKept s s := ⟨rfl, id⟩

theorem DevicesKept.trans {s t u : State} (h : DevicesKept s t) (h' : DevicesKept t u) :
    DevicesKept s u := ⟨h'.fixed.trans h.fixed, h'.range ∘ h.range⟩

theorem BusAccess.refl (s : State) : BusAccess s s := ⟨.refl s, rfl⟩

theorem BusAccess.trans {s t u : State} (h : BusAccess s t) (h' : BusAccess t u) : BusAccess s u :=
  ⟨h.toDevicesKept.trans h'.toDevicesKept, h'.cpu.trans h.cpu⟩

/-- The CPU has no part in `DevicesKept`. -/
theorem DevicesKept.of_cpu (s : State) (c : Cpu) : DevicesKept s { s with cpu := c } := ⟨rfl, id⟩

theorem DevicesKept.ppuInRange_eq {s t : State} (h : DevicesKept s t) : ppuInRange t = ppuInRange s :=
  (congrArg ppuInRange h.fixed :)

theorem DevicesKept.fault {s t : State} (h : DevicesKept s t) : t.fault = s.fault :=
  (congrArg State.fault h.fixed :)

theorem DevicesKept.refused {s t : State} (h : DevicesKept s t) : t.refused = s.refused :=
  (congrArg State.refused h.fixed :)

/-- An access that moves neither the APU nor the controllers' counts. -/
theorem BusAccess.of_still {s t : State} (hf : t.fixed = s.fixed) (hc : t.cpu.still = s.cpu.still)
    (ha : t.apu = s.apu) (hb : t.bus.InRange ↔ s.bus.InRange) : BusAccess s t :=
  ⟨⟨hf, by simp only [apuInRange_iff, ha, hb, imp_self]⟩, hc⟩

/-- An access that changes the bus alone, the controllers' counts staying in range. -/
theorem BusAccess.of_bus {s : State} {b : Bus} (h : s.bus.InRange → b.InRange) :
    BusAccess s { s with bus := b } :=
  ⟨⟨rfl, by simpa only [apuInRange_iff] using And.imp_right h⟩, rfl⟩

/-- An access that changes the APU alone, which stays in range. -/
theorem BusAccess.of_apu {s : State} {u : Apu} (h : s.apu.InRange → u.InRange) :
    BusAccess s { s with apu := u } :=
  ⟨⟨rfl, by simpa only [apuInRange_iff] using And.imp_left h⟩, rfl⟩

/-! ### Reads -/

theorem ppuRead_access (a : BitVec 14) (s : State) : BusAccess s (ppuRead a s).2 := by
  unfold ppuRead
  split
  · exact .of_still rfl rfl rfl .rfl
  · split <;> exact .refl s

theorem statusRead_access (s : State) : BusAccess s (statusRead s).2 := by
  refine .of_still rfl ?_ rfl .rfl
  simp only [statusRead]
  split <;> rfl

theorem dataRead_access (s : State) : BusAccess s (dataRead s).2 := by
  simp only [dataRead]
  split <;> exact (ppuRead_access _ s).trans (.of_still rfl rfl rfl .rfl)

theorem latchPpu_access (r : Byte × State) : BusAccess r.2 (latchPpu r).2 :=
  .of_still rfl rfl rfl .rfl

theorem ppuRegRead_access (r : Nat) (s : State) : BusAccess s (ppuRegRead r s).2 := by
  unfold ppuRegRead
  split
  · exact (statusRead_access s).trans (latchPpu_access _)
  · exact latchPpu_access (_, s)
  · exact (dataRead_access s).trans (latchPpu_access _)
  · exact .refl s

theorem apuStatusRead_access (s : State) : BusAccess s (apuStatusRead s).2 := ⟨⟨rfl, id⟩, rfl⟩

theorem controllerRead1_access (s : State) : BusAccess s (controllerRead1 s).2 := by
  simp only [controllerRead1, loadPort1]
  split_ifs <;> refine .of_bus ?_ <;> grind [Bus.InRange]

theorem controllerRead2_access (s : State) : BusAccess s (controllerRead2 s).2 := by
  simp only [controllerRead2, loadPort2]
  split_ifs <;> refine .of_bus ?_ <;> grind [Bus.InRange]

theorem memRead_access (a : Word) (s : State) : BusAccess s (memRead a s).2 := by
  rcases mem_read_cases a s with h | h | h | h | h | h | h | h | h <;> rw [h]
  · exact .refl s
  · exact ppuRegRead_access _ s
  · exact .refl s
  · exact apuStatusRead_access s
  · exact controllerRead1_access s
  · exact controllerRead2_access s
  · exact .refl s
  · exact .of_still rfl rfl rfl .rfl
  · exact .refl s

theorem read16_access (a : Word) (s : State) : BusAccess s (read16 a s).2 :=
  (memRead_access a s).trans (memRead_access (a + 1) _)

theorem readPointer_access (p : Word) (s : State) : BusAccess s (readPointer p s).2 :=
  (memRead_access p s).trans (memRead_access _ _)

theorem resolve_access (f : Form) (pc0 : Word) (s : State) : BusAccess s (resolve f pc0 s).after := by
  cases f with
  | ind a => exact readPointer_access a s
  | izx z => exact readPointer_access _ s
  | izy z => exact readPointer_access _ s
  | _ => exact .refl s

theorem newRecord_access (i : Instr) (s : State) : BusAccess s (newRecord i s).2 :=
  resolve_access i.form s.cpu.pc s

theorem preOf_access (i : Instr) (s : State) : BusAccess s (preOf i s) := by
  unfold preOf
  cases h : s.cpu.inflight with
  | none => rw [record_of_none i s h]; exact newRecord_access i s
  | some r => rw [record_of_some i s r h]; exact .refl s

/-! ### Writes -/

/-- What a write of the CPU bus can do: an access, or the fault of R214 in a state that an access led to. -/
def WriteOutcome (R : State → State → Prop) (s : State) : Res State → Prop
  | .ok t => R s t
  | .error f => ∃ u, f = raise .romWrite u ∧ R s u

theorem WriteOutcome.map {R R' : State → State → Prop} {s s' : State} {r : Res State}
    (h : WriteOutcome R s' r) (hR : ∀ u, R s' u → R' s u) : WriteOutcome R' s r := by
  cases r with
  | ok u => exact hR u h
  | error f => obtain ⟨u, hf, hu⟩ := h; exact ⟨u, hf, hR u hu⟩

theorem oamDmaByte_access (a : Word) (s : State) : BusAccess s (oamDmaByte a s) :=
  (memRead_access a s).trans (.of_still rfl rfl rfl .rfl)

theorem oamDmaFrom_access (d : Byte) (n : Nat) (s : State) : BusAccess s (oamDmaFrom d n s) := by
  induction n generalizing s with
  | zero => exact .refl s
  | succ n ih => exact (oamDmaByte_access _ s).trans (ih _)

theorem writePpuCtrl_access (d : Byte) (s : State) : BusAccess s (writePpuCtrl d s) := by
  simp only [writePpuCtrl]
  split <;> exact .of_still rfl rfl rfl .rfl

theorem controllerWrite_access (d : Byte) (s : State) : BusAccess s (controllerWrite d s) := by
  simp only [controllerWrite, loadPort1, loadPort2]
  split_ifs
  · exact .of_bus fun _ => ⟨Nat.zero_le 8, Nat.zero_le 8⟩
  · exact .of_bus id

/-- A cartridge write keeps the images, or faults with `romWrite` (R214, R1402). -/
theorem cpuWrite_cases (c : Cart) (a : Nat) (d : Byte) :
    (∃ c', c.cpuWrite a d = .ok c' ∧ c'.fixed = c.fixed) ∨ c.cpuWrite a d = .error .romWrite := by
  unfold Cart.cpuWrite
  split
  · exact .inl ⟨_, rfl, rfl⟩
  · cases c.mapper with
    | nrom => exact .inr rfl
    | _ => exact .inl ⟨_, rfl, rfl⟩

theorem cartWrite_outcome (a : Word) (d : Byte) (s : State) :
    WriteOutcome BusAccess s (cartWrite a d s) := by
  rcases cpuWrite_cases s.cart a.toNat d with ⟨c, h, hc⟩ | h <;> simp only [cartWrite, h]
  · exact .of_still (by simp only [State.fixed, hc]) rfl rfl .rfl
  · exact ⟨s, rfl, .refl s⟩

/-- So does a write of the graphics storage (R214, R1406). -/
theorem chrWrite_cases (c : Cart) (a : Nat) (d : Byte) :
    (∃ c', c.chrWrite a d = .ok c' ∧ c'.fixed = c.fixed) ∨ c.chrWrite a d = .error .romWrite := by
  unfold Cart.chrWrite
  split
  · exact .inl ⟨_, rfl, rfl⟩
  · exact .inr rfl

theorem ppuWrite_outcome (a : BitVec 14) (d : Byte) (s : State) :
    WriteOutcome BusAccess s (ppuWrite a d s) := by
  have hs : BusAccess s (a12Observe a s) := .of_still rfl rfl rfl .rfl
  simp only [ppuWrite]
  split
  · rcases chrWrite_cases (a12Observe a s).cart a.toNat d with ⟨c, h, hc⟩ | h <;> simp only [h]
    · exact hs.trans (.of_still (by simp only [State.fixed, hc]) rfl rfl .rfl)
    · exact ⟨_, rfl, hs⟩
  · split <;> exact .of_still rfl rfl rfl .rfl

theorem writeVramData_outcome (d : Byte) (s : State) :
    WriteOutcome BusAccess s (writeVramData d s) := by
  have h := ppuWrite_outcome (s.ppu.v.setWidth 14) d s
  unfold writeVramData
  split
  · next t ht => rw [ht] at h; exact h.trans (.of_still rfl rfl rfl .rfl)
  · next f hf => rw [hf] at h; exact h

theorem ppuRegWrite_outcome (r : Nat) (d : Byte) (s : State) :
    WriteOutcome BusAccess s (ppuRegWrite r d s) := by
  unfold ppuRegWrite
  split
  · exact writePpuCtrl_access d s
  · exact .of_still rfl rfl rfl .rfl
  · exact .refl s
  · exact .of_still rfl rfl rfl .rfl
  · exact .of_still rfl rfl rfl .rfl
  · refine .of_still ?_ rfl rfl .rfl
    simp only [writeScroll]; split <;> rfl
  · refine .of_still ?_ rfl rfl .rfl
    simp only [writeVramAddr]; split <;> rfl
  · exact writeVramData_outcome d s

/-! ### The APU's registers -/

/-- The DMC's sample address is in program space (R1226). -/
theorem sampleAddr_ge (d : Byte) : 0xC000 ≤ (0xC000 + (d.setWidth 16 <<< 6) : Word).toNat := by
  revert d; decide

theorem dmcWrite_inRange (r : Nat) (d : Byte) (c : Dmc) (h : c.InRange) : (dmcWrite r d c).InRange := by
  obtain ⟨hcur, haddr, hbits⟩ := h
  unfold dmcWrite
  split
  · exact ⟨hcur, haddr, hbits⟩
  · exact ⟨hcur, haddr, hbits⟩
  · refine ⟨hcur, ?_, hbits⟩
    exact sampleAddr_ge d
  · exact ⟨hcur, haddr, hbits⟩

theorem dmcEnable_inRange (on : Bool) (c : Dmc) (h : c.InRange) : (dmcEnable on c).InRange := by
  obtain ⟨hcur, haddr, hbits⟩ := h
  simp only [dmcEnable]
  split_ifs
  · exact ⟨hcur, haddr, hbits⟩
  · exact ⟨by simp only; omega, haddr, hbits⟩
  · exact ⟨hcur, haddr, hbits⟩

@[simp] theorem noiseWrite_lfsr (r : Nat) (d : Byte) (n : Noise) : (noiseWrite r d n).lfsr = n.lfsr := by
  unfold noiseWrite
  split
  · rfl
  · rfl
  · rfl
  · split <;> rfl

theorem writeFrameCounter_inRange (t : Nat) (d : Byte) (u : Apu) (h : u.InRange) :
    (writeFrameCounter t d u).InRange := by
  obtain ⟨hdmc, hlfsr, -⟩ := h
  have hdelay : 1 ≤ frameResetDelay t ∧ frameResetDelay t ≤ 3 := by
    unfold frameResetDelay; split <;> omega
  simp only [writeFrameCounter]
  split_ifs <;> exact ⟨hdmc, hlfsr, by rintro k ⟨⟩; exact hdelay⟩

theorem apuRegWrite_inRange (t r : Nat) (d : Byte) (u : Apu) (h : u.InRange) :
    (apuRegWrite t r d u).InRange := by
  obtain ⟨hdmc, hlfsr, hseq⟩ := h
  unfold apuRegWrite
  split_ifs
  · exact ⟨hdmc, hlfsr, hseq⟩
  · exact ⟨hdmc, hlfsr, hseq⟩
  · exact ⟨hdmc, hlfsr, hseq⟩
  · exact ⟨hdmc, by simpa using hlfsr, hseq⟩
  · exact ⟨dmcWrite_inRange _ d _ hdmc, hlfsr, hseq⟩
  · exact ⟨dmcEnable_inRange _ _ hdmc, hlfsr, hseq⟩
  · exact writeFrameCounter_inRange t d u ⟨hdmc, hlfsr, hseq⟩
  · exact ⟨hdmc, hlfsr, hseq⟩

/-- What a write of the CPU bus can do (R211, R214). -/
theorem memWrite_outcome (a : Word) (d : Byte) (s : State) :
    WriteOutcome BusAccess s (memWrite a d s) := by
  have hlatch : BusAccess s (setPpuLatch d s) := .of_still rfl rfl rfl .rfl
  rcases mem_write_cases a d s with h | h | h | h | h | h | h <;> rw [h]
  · exact .of_still rfl rfl rfl .rfl
  · exact (ppuRegWrite_outcome _ d _).map fun _ => hlatch.trans
  · exact hlatch.trans (oamDmaFrom_access d 256 _)
  · exact controllerWrite_access d s
  · have hlatch : BusAccess s (setApuLatch d s) := .of_still rfl rfl rfl .rfl
    exact hlatch.trans (.of_apu (apuRegWrite_inRange s.t _ d s.apu))
  · exact .refl s
  · exact cartWrite_outcome a d s

end Sys2Proof.Machine

/-! ## Support for 10_state.md: the devices' part of a cycle keeps every field in range -/

namespace Sys2Proof.Machine

/-- The CPU without the interrupt latches, the edge detector and the stall: what the devices' part of a
cycle leaves of it (R1501). -/
def Cpu.steady (c : Cpu) : Cpu :=
  { c with nmiPending := false, nmiPrev := false, intReq := none, dmcStall := 0 }

/-- The PPU's fields are in range (R130). -/
def Ppu.InRange (p : Ppu) : Prop :=
  p.line < 262 ∧ p.dot < 341 ∧ p.eval.length ≤ 8 ∧ (∀ e ∈ p.eval, e.index < 64 ∧ e.row < 16) ∧
    p.render.length = 8

theorem ppuInRange_iff (s : State) : ppuInRange s = true ↔ s.ppu.InRange := by
  unfold ppuInRange Ppu.InRange
  simp [and_assoc]

/-- What a part of a cycle keeps beside the CPU's step: the CPU's registers and record, the ranges of the
devices, and the marks. -/
structure CycleKept (s t : State) : Prop where
  cpu : t.cpu.steady = s.cpu.steady
  ppu : s.ppu.InRange → t.ppu.InRange
  apu : apuInRange s = true → apuInRange t = true
  fault : t.fault = s.fault
  refused : t.refused = s.refused

namespace CycleKept

theorem refl (s : State) : CycleKept s s := ⟨rfl, id, id, rfl, rfl⟩

theorem trans {s t u : State} (h : CycleKept s t) (h' : CycleKept t u) : CycleKept s u :=
  ⟨h'.cpu.trans h.cpu, h'.ppu ∘ h.ppu, h'.apu ∘ h.apu, h'.fault.trans h.fault,
    h'.refused.trans h.refused⟩

theorem of_access {s t : State} (h : BusAccess s t) : CycleKept s t :=
  ⟨(congrArg Cpu.steady h.cpu :),
    by rw [← ppuInRange_iff, ← ppuInRange_iff, h.ppuInRange_eq]; exact id, h.range, h.fault, h.refused⟩

theorem of_ppu {s : State} {p : Ppu} (h : s.ppu.InRange → p.InRange) :
    CycleKept s { s with ppu := p } := ⟨rfl, h, id, rfl, rfl⟩

theorem of_cpu {s : State} {c : Cpu} (h : c.steady = s.cpu.steady) :
    CycleKept s { s with cpu := c } := ⟨h, id, id, rfl, rfl⟩

theorem of_apu {s : State} {u : Apu} (h : s.apu.InRange → u.InRange) :
    CycleKept s { s with apu := u } := of_access (.of_apu h)

theorem ite {c : Prop} [Decidable c] {s t : State} (h : CycleKept s t) :
    CycleKept s (if c then t else s) := by
  split
  · exact h
  · exact .refl s

/-- The parts of the invariant a cycle's devices touch are kept together (R110, R120). -/
theorem inv {s t : State} (h : CycleKept s t) (hs : s.Inv) : t.Inv := by
  obtain ⟨hp, hr, hppu, hapu⟩ := hs
  refine ⟨?_, ?_, ?_, h.apu hapu⟩
  · rw [← hp]; exact (congrArg (fun c => c.p.getLsbD 5 && !c.p.getLsbD 4) h.cpu :)
  · have hi : t.cpu.inflight = s.cpu.inflight := (congrArg Cpu.inflight h.cpu :)
    unfold recordSound at hr ⊢
    rwa [hi]
  · rw [ppuInRange_iff] at hppu ⊢; exact h.ppu hppu

end CycleKept

/-! ### The dot procedure (R1040) -/

theorem ppuRead_kept (a : BitVec 14) (s : State) : CycleKept s (ppuRead a s).2 :=
  .of_access (ppuRead_access a s)

theorem bgShiftReload_inRange (d : Nat) (p : Ppu) (h : p.InRange) : (bgShiftReload d p).InRange := by
  simp only [bgShiftReload]
  split_ifs <;> exact h

theorem bgScroll_inRange (l d : Nat) (p : Ppu) (h : p.InRange) : (bgScroll l d p).InRange := by
  simp only [bgScroll]
  split_ifs <;> exact h

theorem bgFetch_kept (ph : Nat) (s : State) : CycleKept s (bgFetch ph s) := by
  unfold bgFetch
  split
  · exact (ppuRead_kept _ s).trans (.of_ppu id)
  · exact (ppuRead_kept _ s).trans (.of_ppu id)
  · exact (ppuRead_kept _ s).trans (.of_ppu id)
  · exact (ppuRead_kept _ s).trans (.of_ppu id)
  · exact .of_ppu id
  · exact .refl s

theorem bgStep_kept (l d : Nat) (s : State) : CycleKept s (bgStep l d s) := by
  unfold bgStep
  lift_lets
  extract_lets s1 s2 s3
  have h1 : CycleKept s s1 := .of_ppu (bgShiftReload_inRange d _)
  have h2 : CycleKept s1 s2 := .ite (bgFetch_kept _ _)
  have h3 : CycleKept s2 s3 := .ite (ppuRead_kept _ _)
  exact h1.trans <| h2.trans <| h3.trans <| .of_ppu (bgScroll_inRange l d _)

/-- The scan selects at most eight sprites of the 64, each with a row of the sprite (R1060). -/
theorem spriteScan_inRange (oam : Mem) (h l : Nat) (hh : h ≤ 16) (is : List Nat) (acc : List EvalEntry)
    (his : ∀ i ∈ is, i < 64) (hlen : acc.length ≤ 8) (hacc : ∀ e ∈ acc, e.index < 64 ∧ e.row < 16) :
    (spriteScan oam h l is acc).1.length ≤ 8 ∧
      ∀ e ∈ (spriteScan oam h l is acc).1, e.index < 64 ∧ e.row < 16 := by
  induction is generalizing acc with
  | nil => exact ⟨hlen, hacc⟩
  | cons i rest ih =>
    have hrest : ∀ j ∈ rest, j < 64 := fun j hj => his j (List.mem_cons_of_mem _ hj)
    simp only [spriteScan]
    split
    · split
      · refine ih _ hrest (by simp; omega) fun e he => ?_
        rcases List.mem_append.1 he with he | he
        · exact hacc e he
        · rw [List.mem_singleton.1 he]
          exact ⟨his i List.mem_cons_self, by simp only [evalEntry]; omega⟩
      · exact ⟨hlen, hacc⟩
    · exact ih acc hrest hlen hacc

theorem spriteEval_inRange (l : Nat) (p : Ppu) (h : p.InRange) : (spriteEval l p).InRange := by
  obtain ⟨hline, hdot, -, -, hrender⟩ := h
  have hh : p.sprHeight ≤ 16 := by unfold Ppu.sprHeight; split <;> omega
  unfold spriteEval
  split
  · exact ⟨hline, hdot, Nat.zero_le 8, by simp, hrender⟩
  · obtain ⟨hlen, hall⟩ := spriteScan_inRange p.oam p.sprHeight l hh (List.range 64) []
      (fun i hi => List.mem_range.1 hi) (Nat.zero_le 8) (by simp)
    exact ⟨hline, hdot, hlen, hall, hrender⟩

theorem updSlot_inRange (i : Nat) (f : RenderSlot → RenderSlot) (p : Ppu) (h : p.InRange) :
    (updSlot i f p).InRange := by
  obtain ⟨hline, hdot, hlen, hall, hrender⟩ := h
  exact ⟨hline, hdot, hlen, hall, by simpa [updSlot] using hrender⟩

theorem spriteSlotStep_kept (i q : Nat) (s : State) : CycleKept s (spriteSlotStep i q s) := by
  simp only [spriteSlotStep]
  split
  · exact .of_ppu (updSlot_inRange _ _ _)
  · split
    · exact (ppuRead_kept _ s).trans (.of_ppu (updSlot_inRange _ _ _))
    · exact ppuRead_kept _ s
  · split
    · exact (ppuRead_kept _ s).trans (.of_ppu (updSlot_inRange _ _ _))
    · exact ppuRead_kept _ s
  · exact .refl s

theorem spriteFetchStep_kept (d : Nat) (s : State) : CycleKept s (spriteFetchStep d s) := by
  unfold spriteFetchStep
  split
  · exact .refl s
  · have h : CycleKept s { s with ppu := { s.ppu with oamaddr := 0 } } := .of_ppu id
    exact h.trans (spriteSlotStep_kept _ _ _)

theorem noSprites_inRange (p : Ppu) (h : p.InRange) : Ppu.InRange { p with eval := [] } := by
  obtain ⟨hline, hdot, -, -, hrender⟩ := h
  exact ⟨hline, hdot, Nat.zero_le 8, by simp, hrender⟩

theorem Ppu.InRange.ite {c : Prop} [Decidable c] {p q : Ppu} (h : p.InRange)
    (hq : p.InRange → q.InRange) : (if c then q else p).InRange := by
  split
  · exact hq h
  · exact h

theorem dotHead_inRange (l d : Nat) (p : Ppu) (h : p.InRange) : (dotHead l d p).InRange := by
  unfold dotHead
  lift_lets
  extract_lets p1 p2 p3
  have h1 : p1.InRange := h.ite id
  have h2 : p2.InRange := h1.ite id
  have h3 : p3.InRange := h2.ite (noSprites_inRange _)
  exact h3.ite (spriteEval_inRange l _)

theorem outputPixel_inRange (l x : Nat) (p : Ppu) (h : p.InRange) : (outputPixel l x p).InRange := by
  simp only [outputPixel]
  split <;> exact h

theorem frameComplete_kept (s : State) : CycleKept s (frameComplete s) := ⟨rfl, id, id, rfl, rfl⟩

/-- A move to a position on the grid. -/
theorem move_kept (s : State) (l d : Nat) (hl : s.ppu.InRange → l < 262) (hd : s.ppu.InRange → d < 341) :
    CycleKept s { s with ppu := { s.ppu with line := l, dot := d } } :=
  .of_ppu fun hp =>
    have ⟨_, _, hrest⟩ := hp
    ⟨hl hp, hd hp, hrest⟩

/-- The position stays on the grid (R1045, R1002). -/
theorem advance_kept (s : State) : CycleKept s (advance s) := by
  unfold advance
  lift_lets
  extract_lets p dot
  have hdot : s.ppu.InRange → dot < 341 := by
    intro hp
    have := hp.2.1
    unfold dot
    split <;> omega
  split
  · split
    · exact (move_kept s 0 0 (fun _ => by decide) fun _ => by decide).trans (frameComplete_kept _)
    · exact move_kept s _ 0 (fun hp => by have : p.line < 262 := hp.1; omega) fun _ => by decide
  · exact move_kept s _ _ (fun hp => hp.1) fun hp => by have := hdot hp; omega

theorem ppuDot_kept (s : State) : CycleKept s (ppuDot s) := by
  unfold ppuDot
  lift_lets
  extract_lets l d s1 s2 s3
  have h1 : CycleKept s s1 := .of_ppu (dotHead_inRange _ _ _)
  have h2 : CycleKept s1 s2 := .ite ((bgStep_kept _ _ _).trans (spriteFetchStep_kept _ _))
  have h3 : CycleKept s2 s3 := .ite (.of_ppu (outputPixel_inRange _ _ _))
  exact h1.trans <| h2.trans <| h3.trans <| advance_kept _

/-! ### The APU's step (R1200) -/

theorem frameSeqCount_inRange (u : Apu) (h : u.InRange) : (frameSeqCount u).InRange := by
  simp only [frameSeqCount, fourStepEvent, fiveStepEvent]
  split <;> split <;> exact h

theorem frameSeqStep_inRange (u : Apu) (h : u.InRange) : (frameSeqStep u).InRange := by
  unfold frameSeqStep
  split
  · exact frameSeqCount_inRange u h
  · next k hk =>
    obtain ⟨hdmc, hlfsr, hseq⟩ := h
    split
    · exact ⟨hdmc, hlfsr, by rintro k ⟨⟩⟩
    · refine frameSeqCount_inRange _ ⟨hdmc, hlfsr, ?_⟩
      rintro k' ⟨⟩
      have := hseq k hk
      omega

/-- The noise register never reaches 0: when its last bit leaves it, that bit comes back at the top
(R1265). -/
theorem lfsrClock_ne_zero (mode : Bool) (r : BitVec 15) (h : r ≠ 0) : lfsrClock mode r ≠ 0 := by
  intro h0
  have hbit : ∀ i, (lfsrClock mode r).getLsbD i = false := by simp [h0]
  have htop := hbit 14
  simp only [lfsrClock, BitVec.getLsbD_or, BitVec.getLsbD_ushiftRight] at hbit htop
  have hrest : ∀ i, r.getLsbD (1 + i) = false := fun i => (Bool.or_eq_false_iff.1 (hbit i)).1
  have hlast : r.getLsbD 0 = false := by
    have h1 := hrest 0
    have h6 := hrest 5
    cases mode <;> cases h : r.getLsbD 0 <;> simp_all
  refine h (BitVec.eq_of_getLsbD_eq fun i _ => ?_)
  cases i with
  | zero => simpa using hlast
  | succ i => simpa [Nat.add_comm] using hrest i

theorem noiseTimer_lfsr_ne_zero (n : Noise) (h : n.lfsr ≠ 0) : (noiseTimer n).lfsr ≠ 0 := by
  unfold noiseTimer
  split
  · exact lfsrClock_ne_zero _ _ h
  · exact h

theorem dmcTimer_inRange (c : Dmc) (h : c.InRange) : (dmcTimer c).InRange := by
  obtain ⟨hcur, haddr, hlo, hhi⟩ := h
  simp only [dmcTimer]
  split
  · split
    · split <;> exact ⟨hcur, haddr, Nat.one_le_ofNat, Nat.le_refl 8⟩
    · exact ⟨hcur, haddr, by simp only at *; omega, by simp only; omega⟩
  · exact ⟨hcur, haddr, hlo, hhi⟩

theorem apuTimers_inRange (t : Nat) (u : Apu) (h : u.InRange) : (apuTimers t u).InRange := by
  obtain ⟨hdmc, hlfsr, hseq⟩ := frameSeqStep_inRange u h
  simp only [apuTimers]
  split <;> exact ⟨dmcTimer_inRange _ hdmc, noiseTimer_lfsr_ne_zero _ hlfsr, hseq⟩

/-- The reader stays in program space (R1276). -/
theorem dmcTake_inRange (b : Byte) (c : Dmc) (h : c.InRange) : (dmcTake b c).InRange := by
  obtain ⟨hcur, haddr, hbits⟩ := h
  have hnext : 0x8000 ≤ (if c.curAddr = 0xFFFF then 0x8000 else c.curAddr + 1 : Word).toNat := by
    split
    · decide
    · bv_omega
  simp only [dmcTake]
  split
  · split
    · exact ⟨by simp only; omega, haddr, hbits⟩
    · exact ⟨hnext, haddr, hbits⟩
  · exact ⟨hnext, haddr, hbits⟩

theorem dmcReader_kept (s : State) : CycleKept s (dmcReader s) := by
  unfold dmcReader
  split
  · have hread := CycleKept.of_access (memRead_access s.apu.dmc.curAddr s)
    refine hread.trans ⟨rfl, id, ?_, rfl, rfl⟩
    simp only [apuInRange_iff]
    exact fun ⟨⟨hdmc, hu⟩, hbus⟩ => ⟨⟨dmcTake_inRange _ _ hdmc, hu⟩, hbus⟩
  · exact .refl s

theorem mixerSample_inRange (n : Nat) (u : Apu) (h : u.InRange) : (mixerSample n u).InRange := by
  simp only [mixerSample]
  split <;> exact h

theorem apuStep_kept (s : State) : CycleKept s (apuStep s) := by
  have h1 : CycleKept s { s with apu := apuTimers s.t s.apu } := .of_apu (apuTimers_inRange _ _)
  unfold apuStep
  extract_lets s2
  have h2 : CycleKept s s2 := h1.trans (dmcReader_kept _)
  exact h2.trans (.of_apu (mixerSample_inRange _ _))

/-! ### The whole of the cycle after the CPU's step (R1501) -/

theorem dotAndDetect_kept (s : State) : CycleKept s (dotAndDetect s) :=
  (ppuDot_kept s).trans (.of_cpu rfl)

theorem tickT_kept (s : State) : CycleKept s (tickT s) := ⟨rfl, id, id, rfl, rfl⟩

theorem afterCpu_kept (s : State) : CycleKept s (afterCpu s) := by
  unfold afterCpu
  exact (dotAndDetect_kept s).trans <| (dotAndDetect_kept _).trans <| (dotAndDetect_kept _).trans <|
    (apuStep_kept _).trans (tickT_kept _)

end Sys2Proof.Machine

/-! ## Support for 10_state.md: the instructions' meanings as data -/

namespace Sys2Proof.Machine

/-! ### The effects of the instructions, as data -/

/-- The shapes of the effects that do not set PC (Machine/Ops.lean), with what each instruction puts in. -/
inductive Effect where
  | onCpu (f : Cpu → Cpu)
  | reads (f : Byte → Cpu → Cpu)
  | stores (v : Cpu → Byte)
  | modifies (f : Byte → Cpu → Byte × Cpu) (g : Byte → Cpu → Cpu)
  | pushes (v : Cpu → Byte)
  | pulls (f : Byte → Cpu → Cpu)
  | looks

/-- The model's effect of a shape. -/
def Effect.run : Effect → Inflight → State → Res State
  | onCpu f => cpuEffect f
  | reads f => readEffect f
  | stores v => storeEffect v
  | modifies f g => rmwEffect f g
  | pushes v => pushEffect v
  | pulls f => pullEffect f
  | looks => nopEffect

/-- What an instruction is: an effect after which PC advances, a jump, or a refused opcode. -/
inductive Meaning where
  | effect (e : Effect)
  | jump (e : Inflight → State → Word × State)
  | refused (op : Byte)

/-- The meaning of each instruction; `exec_eq_run` ties it to `exec`. -/
@[simp] def meaningOf : Instr → Meaning
  | .lda _ => .effect (.reads fun v c => setNZ v { c with a := v })
  | .ldx _ => .effect (.reads fun v c => setNZ v { c with x := v })
  | .ldy _ => .effect (.reads fun v c => setNZ v { c with y := v })
  | .sta _ => .effect (.stores fun c => c.a)
  | .stx _ => .effect (.stores fun c => c.x)
  | .sty _ => .effect (.stores fun c => c.y)
  | .tax => .effect (.onCpu fun c => setNZ c.a { c with x := c.a })
  | .tay => .effect (.onCpu fun c => setNZ c.a { c with y := c.a })
  | .txa => .effect (.onCpu fun c => setNZ c.x { c with a := c.x })
  | .tya => .effect (.onCpu fun c => setNZ c.y { c with a := c.y })
  | .tsx => .effect (.onCpu fun c => setNZ c.s { c with x := c.s })
  | .txs => .effect (.onCpu fun c => { c with s := c.x })
  | .pha => .effect (.pushes fun c => c.a)
  | .php => .effect (.pushes fun c => statusPushed c.p)
  | .pla => .effect (.pulls fun v c => setNZ v { c with a := v })
  | .plp => .effect (.pulls fun m c => { c with p := statusPulled m })
  | .adc _ => .effect (.reads addC)
  | .sbc _ | .sbcAlt _ => .effect (.reads subC)
  | .and _ => .effect (.reads fun v c => setNZ (c.a &&& v) { c with a := c.a &&& v })
  | .ora _ => .effect (.reads fun v c => setNZ (c.a ||| v) { c with a := c.a ||| v })
  | .eor _ => .effect (.reads fun v c => setNZ (c.a ^^^ v) { c with a := c.a ^^^ v })
  | .bit _ => .effect (.reads fun v c =>
      setV (v.getLsbD 6) (setN (v.getLsbD 7) (setZ (c.a &&& v == 0) c)))
  | .cmp _ => .effect (.reads fun v c => compare c.a v c)
  | .cpx _ => .effect (.reads fun v c => compare c.x v c)
  | .cpy _ => .effect (.reads fun v c => compare c.y v c)
  | .inc _ => .effect (.modifies plusOne setNZ)
  | .dec _ => .effect (.modifies minusOne setNZ)
  | .inx => .effect (.onCpu fun c => setNZ (c.x + 1) { c with x := c.x + 1 })
  | .iny => .effect (.onCpu fun c => setNZ (c.y + 1) { c with y := c.y + 1 })
  | .dex => .effect (.onCpu fun c => setNZ (c.x - 1) { c with x := c.x - 1 })
  | .dey => .effect (.onCpu fun c => setNZ (c.y - 1) { c with y := c.y - 1 })
  | .asl _ => .effect (.modifies shiftLeft setNZ)
  | .lsr _ => .effect (.modifies shiftRight setNZ)
  | .rol _ => .effect (.modifies rotateLeft setNZ)
  | .ror _ => .effect (.modifies rotateRight setNZ)
  | .jmp _ => .jump fun r s => (targetOf r, s)
  | .jsr _ => .jump fun r s => (targetOf r, pushWord (r.pc0 + 2) s)
  | .rts => .jump fun _ s => ((pullWord s).1 + 1, (pullWord s).2)
  | .rti => .jump fun _ s => returnFromInterrupt s
  | .brk => .jump fun r s =>
      takeInterrupt (r.pc0 + 2) (statusPushed s.cpu.p) (irqVectorOf r.hijacked) s
  | .bpl d => .jump (branchEffect (.bpl d))
  | .bmi d => .jump (branchEffect (.bmi d))
  | .bvc d => .jump (branchEffect (.bvc d))
  | .bvs d => .jump (branchEffect (.bvs d))
  | .bcc d => .jump (branchEffect (.bcc d))
  | .bcs d => .jump (branchEffect (.bcs d))
  | .bne d => .jump (branchEffect (.bne d))
  | .beq d => .jump (branchEffect (.beq d))
  | .clc => .effect (.onCpu (setC false))
  | .sec => .effect (.onCpu (setC true))
  | .cli => .effect (.onCpu (setI false))
  | .sei => .effect (.onCpu (setI true))
  | .cld => .effect (.onCpu (setD false))
  | .sed => .effect (.onCpu (setD true))
  | .clv => .effect (.onCpu (setV false))
  | .nop => .effect (.onCpu id)
  | .lax _ => .effect (.reads fun v c => setNZ v { c with a := v, x := v })
  | .sax _ => .effect (.stores fun c => c.a &&& c.x)
  | .dcp _ => .effect (.modifies minusOne fun r c => compare c.a r c)
  | .isc _ => .effect (.modifies plusOne subC)
  | .slo _ => .effect (.modifies shiftLeft fun r c => setNZ (c.a ||| r) { c with a := c.a ||| r })
  | .rla _ => .effect (.modifies rotateLeft fun r c => setNZ (c.a &&& r) { c with a := c.a &&& r })
  | .sre _ => .effect (.modifies shiftRight fun r c => setNZ (c.a ^^^ r) { c with a := c.a ^^^ r })
  | .rra _ => .effect (.modifies rotateRight addC)
  | .nopAlt _ _ => .effect .looks
  | .anc _ _ => .effect (.reads fun v c =>
      setC ((c.a &&& v).getLsbD 7) (setNZ (c.a &&& v) { c with a := c.a &&& v }))
  | .alr _ => .effect (.reads fun v c =>
      setNZ ((c.a &&& v) >>> 1) { setC ((c.a &&& v).getLsbD 0) c with a := (c.a &&& v) >>> 1 })
  | .arr _ => .effect (.reads fun v c => arrCpu (c.a &&& v) c)
  | .sbx _ => .effect (.reads sbxCpu)
  | .las _ => .effect (.reads fun v c =>
      setNZ (v &&& c.s) { c with a := v &&& c.s, x := v &&& c.s, s := v &&& c.s })
  | .xaa b => .refused (Instr.opcode (.xaa b))
  | .lxa b => .refused (Instr.opcode (.lxa b))
  | .sha f => .refused (Instr.opcode (.sha f))
  | .shx a => .refused (Instr.opcode (.shx a))
  | .shy a => .refused (Instr.opcode (.shy a))
  | .tas a => .refused (Instr.opcode (.tas a))
  | .jam _ => .jump fun r s => (r.pc0, mapCpu (fun c => { c with halted := true }) s)

/-- Completing instruction `i` with a meaning (R404). -/
def Meaning.run (i : Instr) (s : State) : Meaning → Host.Outcome State Fault Refusal
  | effect e => runInstr i e.run s
  | jump e => runJump i e s
  | refused op => .refused (refuse (.unstableOpcode op) s)

theorem exec_eq_run (i : Instr) (s : State) : exec i s = (meaningOf i).run i s := by cases i <;> rfl

/-! ### What a meaning leaves of A, X, Y, S and P -/

/-- The registers an instruction computes with (R100). -/
structure Regs where
  a : Byte
  x : Byte
  y : Byte
  s : Byte
  p : Byte

/-- The registers of a CPU. -/
@[simp] def Cpu.regs (c : Cpu) : Regs := ⟨c.a, c.x, c.y, c.s, c.p⟩

theorem BusAccess.regs {s t : State} (h : BusAccess s t) : t.cpu.regs = s.cpu.regs :=
  (congrArg Cpu.regs h.cpu :)

/-- What an effect has to do with the CPU to leave the view `π` of the registers, for an operand of form `f`
(a read-modify-write of A writes A, R405). -/
@[simp] def Effect.Keeps {α : Type} (π : Regs → α) (f : Form) : Effect → Prop
  | onCpu g => ∀ c, π (g c).regs = π c.regs
  | reads g => ∀ v c, π (g v c).regs = π c.regs
  | stores _ => True
  | modifies g h => (∀ m c, π (g m c).2.regs = π c.regs) ∧ (∀ v c, π (h v c).regs = π c.regs) ∧
      (f = .acc → ∀ (r : Regs) b, π { r with a := b } = π r)
  | pushes _ => ∀ (r : Regs) b, π { r with s := b } = π r
  | pulls g => ∀ v (c : Cpu) b, π (g v { c with s := b }).regs = π c.regs
  | looks => True

/-- The same of a meaning. -/
@[simp] def Meaning.Keeps {α : Type} (π : Regs → α) (f : Form) : Meaning → Prop
  | effect e => e.Keeps π f
  | jump e => ∀ r s, π (e r s).2.cpu.regs = π s.cpu.regs
  | refused _ => True

theorem load_access {o : Operand} {s t : State} {v : Byte} (h : load o s = .ok (v, t)) :
    BusAccess s t := by
  rcases load_cases o s v t h with ⟨-, rfl⟩ | ⟨-, -, rfl⟩ | ⟨a, -, ha⟩
  · exact .refl t
  · exact .refl t
  · simpa only [ha] using memRead_access a s

theorem memWrite_regs {a : Word} {v : Byte} {s t : State} (h : memWrite a v s = .ok t) :
    t.cpu.regs = s.cpu.regs := by
  have hw := memWrite_outcome a v s
  rw [h] at hw
  exact BusAccess.regs hw

theorem fits_accumulator {f : Form} (h : operandFits f .accumulator = true) : f = .acc := by
  cases f with
  | acc => rfl
  | _ => cases h

theorem Effect.run_keeps {α : Type} {π : Regs → α} {f : Form} {e : Effect} {r : Inflight} {s t : State}
    (he : e.Keeps π f) (hf : operandFits f r.operand = true) (ht : e.run r s = .ok t) :
    π t.cpu.regs = π s.cpu.regs := by
  cases e with
  | onCpu g => cases ht; exact he _
  | reads g =>
    simp only [run, readEffect] at ht
    split at ht
    · next v u hu => cases ht; exact (he v _).trans (congrArg π (load_access hu).regs)
    · cases ht
  | stores v =>
    obtain ⟨a, -, ha⟩ := store_cases _ _ _ _ ht
    exact congrArg π (memWrite_regs ha)
  | modifies g h =>
    obtain ⟨hg, hh, hacc⟩ := he
    simp only [run, rmwEffect] at ht
    split at ht
    · next v u hu =>
      cases ht
      refine (hh v _).trans ?_
      rcases rmw_cases g _ _ _ _ hu with ⟨ho, -, rfl⟩ | ⟨a, -, -, ha⟩
      · rw [ho] at hf
        exact (hacc (fits_accumulator hf) _ _).trans (hg _ _)
      · rw [memWrite_regs ha]
        exact (hg _ _).trans (congrArg π (memRead_access a s).regs)
    · cases ht
  | pushes v => cases ht; exact he s.cpu.regs _
  | pulls g => cases ht; exact he _ _ _
  | looks =>
    simp only [run, nopEffect] at ht
    split at ht <;> cases ht
    · exact congrArg π (memRead_access _ s).regs
    · rfl

/-- An instruction whose meaning leaves a view of the registers leaves it (R404). -/
theorem exec_keeps {α : Type} {π : Regs → α} {i : Instr} {s t : State} (hm : (meaningOf i).Keeps π i.form)
    (hf : recordFits i s = true) (ht : exec i s = .next t) : π t.cpu.regs = π s.cpu.regs := by
  have hpre : π (preOf i s).cpu.regs = π s.cpu.regs := congrArg π (preOf_access i s).regs
  rw [exec_eq_run] at ht
  cases h : meaningOf i with
  | effect e =>
    rw [h] at ht hm
    obtain ⟨u, hu, rfl⟩ := run_instr_cases i e.run s t ht
    exact (Effect.run_keeps hm (rec_of_fits i s hf) hu).trans hpre
  | jump e =>
    rw [h] at ht hm
    rw [Meaning.run, run_jump_eq] at ht
    cases ht
    exact (hm _ _).trans hpre
  | refused op => rw [h] at ht; cases ht

end Sys2Proof.Machine

/-! ## Which registers and flags an instruction leaves (R101, R110, R111) -/

namespace Sys2Proof.Machine

/-! ### P, bit by bit (R110) -/

/-- The bits of a byte with one bit. -/
theorem flagByte_getElem (b : Bool) {n k : Nat} (hk : k < 8) :
    (flagByte b n)[k] = (b && decide (n = k)) := by
  cases b
  · simp [flagByte]
  · rw [← BitVec.getLsbD_eq_getElem]
    simp only [flagByte, if_true, Bool.true_and, BitVec.natCast_eq_ofNat, BitVec.getLsbD_ofNat,
      Nat.one_shiftLeft, Nat.testBit_two_pow, hk, decide_true]

/-- Setting one bit of a byte leaves the others. -/
@[simp] theorem setBit_getElem_ne {n k : Nat} (h : k ≠ n) (hk : k < 8) (b : Bool) (p : Byte) :
    (setBit n b p)[k] = p[k] := by
  have hmask : k < n ∨ ¬ k - n = 0 := by omega
  simpa [setBit, flagByte_getElem, h.symm] using fun _ => hmask

@[simp] theorem setN_p (b : Bool) (c : Cpu) : (setN b c).p = setBit 7 b c.p := rfl
@[simp] theorem setV_p (b : Bool) (c : Cpu) : (setV b c).p = setBit 6 b c.p := rfl
@[simp] theorem setD_p (b : Bool) (c : Cpu) : (setD b c).p = setBit 3 b c.p := rfl
@[simp] theorem setI_p (b : Bool) (c : Cpu) : (setI b c).p = setBit 2 b c.p := rfl
@[simp] theorem setC_p (b : Bool) (c : Cpu) : (setC b c).p = setBit 0 b c.p := rfl
@[simp] theorem setZ_p (b : Bool) (c : Cpu) : (setZ b c).p = setBit 1 b c.p := rfl
@[simp] theorem setNZ_p (v : Byte) (c : Cpu) :
    (setNZ v c).p = setBit 1 (v == 0) (setBit 7 (v.getLsbD 7) c.p) := rfl

/-! ### A vector read leaves the registers -/

@[simp] theorem read16_a (a : Word) (s : State) : (read16 a s).2.cpu.a = s.cpu.a :=
  (congrArg Regs.a (read16_access a s).regs :)
@[simp] theorem read16_x (a : Word) (s : State) : (read16 a s).2.cpu.x = s.cpu.x :=
  (congrArg Regs.x (read16_access a s).regs :)
@[simp] theorem read16_y (a : Word) (s : State) : (read16 a s).2.cpu.y = s.cpu.y :=
  (congrArg Regs.y (read16_access a s).regs :)
@[simp] theorem read16_p (a : Word) (s : State) : (read16 a s).2.cpu.p = s.cpu.p :=
  (congrArg Regs.p (read16_access a s).regs :)

/-! ### The registers: the instructions of each list write it, the others' meanings leave it (R101) -/

/-- A well-formed instruction in accumulator mode writes A (R405, R640 to R643). -/
theorem form_ne_acc {i : Instr} (hw : i.wellFormed = true) (h : writesA i = false) : i.form ≠ .acc := by
  cases i with
  | asl f | lsr f | rol f | ror f => exact of_decide_eq_false h
  | _ => intro hf; cases hf <;> cases hw

theorem meaning_keeps_a {i : Instr} (hf : i.form ≠ .acc) (h : writesA i = false) :
    (meaningOf i).Keeps Regs.a i.form := by
  cases i with
  | lda _ | pla | txa | tya | adc _ | sbc _ | and _ | ora _ | eor _ | lax _ | slo _ | rla _ | sre _
  | rra _ | isc _ | anc _ _ | alr _ | arr _ | las _ | sbcAlt _ => cases h
  | _ =>
    simp_all [Instr.form, writesA, compare, shiftLeft, shiftRight, rotateLeft, rotateRight,
      plusOne, minusOne, sbxCpu, pushWord, pullWord, returnFromInterrupt, takeInterrupt, branchEffect]

theorem meaning_keeps_x {i : Instr} (h : writesX i = false) : (meaningOf i).Keeps Regs.x i.form := by
  cases i with
  | ldx _ | tax | tsx | inx | dex | lax _ | sbx _ | las _ => cases h
  | _ =>
    simp [addC, subC, compare, shiftLeft, shiftRight, rotateLeft, rotateRight, plusOne, minusOne,
      arrCpu, pushWord, pullWord, returnFromInterrupt, takeInterrupt, branchEffect]

theorem meaning_keeps_y {i : Instr} (h : writesY i = false) : (meaningOf i).Keeps Regs.y i.form := by
  cases i with
  | ldy _ | tay | iny | dey => cases h
  | _ =>
    simp [addC, subC, compare, shiftLeft, shiftRight, rotateLeft, rotateRight, plusOne, minusOne,
      arrCpu, sbxCpu, pushWord, pullWord, returnFromInterrupt, takeInterrupt, branchEffect]

theorem meaning_keeps_s {i : Instr} (h : writesS i = false) : (meaningOf i).Keeps Regs.s i.form := by
  cases i with
  | txs | las _ | pha | php | pla | plp | jsr _ | rts | rti | brk => cases h
  | _ =>
    simp [addC, subC, compare, shiftLeft, shiftRight, rotateLeft, rotateRight, plusOne, minusOne,
      arrCpu, sbxCpu, branchEffect]

/-- Settles O42: each register's view of the registers is kept by every meaning outside its list. -/
theorem registerFrame : Obligations.RegisterFrame := by
  intro i s t hw hf ht
  exact ⟨fun h => exec_keeps (meaning_keeps_a (form_ne_acc hw h) h) hf ht,
    fun h => exec_keeps (meaning_keeps_x h) hf ht, fun h => exec_keeps (meaning_keeps_y h) hf ht,
    fun h => exec_keeps (meaning_keeps_s h) hf ht⟩

/-! ### The flags (R110) -/

/-- The instructions that write bit `k` of P; bits 5 and 4 are written by PLP and RTI (R111). -/
def writesFlag (k : Nat) (i : Instr) : Bool :=
  (decide (k = 7 ∨ k = 1) && writesNZ i) || (decide (k = 6) && writesV i) ||
    (decide (k = 3) && writesD i) || (decide (k = 2) && writesI i) || (decide (k = 0) && writesC i) ||
    (decide (k = 5 ∨ k = 4) && decide (i = .plp ∨ i = .rti))

theorem meaning_keeps_flag {k : Nat} (hk : k < 8) {i : Instr} (h : writesFlag k i = false) :
    (meaningOf i).Keeps (fun r => r.p.getLsbD k) i.form := by
  cases i with
  | plp | rti => simp [writesFlag, writesNZ, writesV, writesD, writesI, writesC] at h; omega
  | _ =>
    simp_all [writesFlag, writesNZ, writesV, writesD, writesI, writesC, addC, subC, compare, shiftLeft,
      shiftRight, rotateLeft, rotateRight, plusOne, minusOne, arrCpu, sbxCpu, pushWord, pullWord,
      takeInterrupt, branchEffect]

/-- PLP and RTI pull P, whose bits 5 and 4 they make 1 and 0 (R111). -/
theorem statusPulled_fixed_bits (m : Byte) :
    (statusPulled m).getLsbD 5 = true ∧ (statusPulled m).getLsbD 4 = false := by
  simp [statusPulled]

theorem exec_plp_p {s t : State} (ht : exec .plp s = .next t) : ∃ m, t.cpu.p = statusPulled m := by
  rw [exec_eq_run, meaningOf, Meaning.run] at ht
  obtain ⟨u, hu, rfl⟩ := run_instr_cases _ _ s t ht
  cases hu
  exact ⟨_, rfl⟩

theorem exec_rti_p {s t : State} (ht : exec .rti s = .next t) : ∃ m, t.cpu.p = statusPulled m := by
  rw [exec_eq_run, meaningOf, Meaning.run, run_jump_eq] at ht
  cases ht
  exact ⟨_, rfl⟩

/-- Settles O43: each bit of P is kept by every meaning outside its list, and PLP and RTI pull P. -/
theorem flagFrame : Obligations.FlagFrame := by
  intro i s t _ hf ht
  have keep : ∀ k, k < 8 → writesFlag k i = false → t.cpu.p.getLsbD k = s.cpu.p.getLsbD k :=
    fun k hk h => exec_keeps (π := fun r => r.p.getLsbD k) (meaning_keeps_flag hk h) hf ht
  refine ⟨fun h => ⟨?_, ?_⟩, fun h => ?_, fun h => ?_, fun h => ?_, fun h => ?_, fun h => ⟨?_, ?_⟩, ?_⟩
  · exact keep 7 (by decide) (by simp [writesFlag, h])
  · exact keep 1 (by decide) (by simp [writesFlag, h])
  · exact keep 6 (by decide) (by simp [writesFlag, h])
  · exact keep 3 (by decide) (by simp [writesFlag, h])
  · exact keep 2 (by decide) (by simp [writesFlag, h])
  · exact keep 0 (by decide) (by simp [writesFlag, h])
  · exact keep 5 (by decide) (by simp [writesFlag, h])
  · exact keep 4 (by decide) (by simp [writesFlag, h])
  · rintro (rfl | rfl)
    · obtain ⟨m, hm⟩ := exec_plp_p ht
      exact hm ▸ statusPulled_fixed_bits m
    · obtain ⟨m, hm⟩ := exec_rti_p ht
      exact hm ▸ statusPulled_fixed_bits m

end Sys2Proof.Machine

/-! ## What an instruction does to the devices, and how it can stop (R214, R401, R405) -/

namespace Sys2Proof.Machine

/-- The form resolves to an address (R410 to R418). -/
def isAddressForm : Form → Bool
  | .imp | .acc | .imm _ | .rel _ => false
  | _ => true

/-- The form's operand is one R405 gives the effect's primitive a case for. -/
def Effect.allows (f : Form) : Effect → Bool
  | reads _ => isAddressForm f || decide (f.mode = .imm) || decide (f.mode = .acc)
  | stores _ => isAddressForm f
  | modifies _ _ => isAddressForm f || decide (f.mode = .acc)
  | _ => true

theorem fits_address {f : Form} {o : Operand} (hf : isAddressForm f = true)
    (ho : operandFits f o = true) : ∃ a, o = .address a := by
  cases o with
  | address a => exact ⟨a, rfl⟩
  | _ => cases f <;> simp [operandFits, isAddressForm] at hf ho

theorem fits_acc {f : Form} {o : Operand} (hf : f.mode = .acc) (ho : operandFits f o = true) :
    o = .accumulator := by
  cases o with
  | accumulator => rfl
  | _ => cases f <;> simp [operandFits, Form.mode] at hf ho

theorem fits_imm {f : Form} {o : Operand} (hf : f.mode = .imm) (ho : operandFits f o = true) :
    ∃ b, o = .immediate b := by
  cases o with
  | immediate b => exact ⟨b, rfl⟩
  | _ => cases f <;> simp [operandFits, Form.mode] at hf ho

/-- A load succeeds on every operand it has a case for (R405). -/
theorem load_ok {g : Byte → Cpu → Cpu} {f : Form} {o : Operand} (s : State)
    (he : (Effect.reads g).allows f = true) (ho : operandFits f o = true) :
    ∃ v t, load o s = .ok (v, t) := by
  simp only [Effect.allows, Bool.or_eq_true, decide_eq_true_eq] at he
  rcases he with (he | he) | he
  · obtain ⟨a, rfl⟩ := fits_address he ho
    exact ⟨_, _, rfl⟩
  · obtain ⟨b, rfl⟩ := fits_imm he ho
    exact ⟨_, _, rfl⟩
  · obtain rfl := fits_acc he ho
    exact ⟨_, _, rfl⟩

/-- An effect with an operand its primitive has a case for never ends in `InternalDecode` (R405, log entry
12), and keeps the devices. -/
theorem Effect.run_outcome {e : Effect} {f : Form} {r : Inflight} (s : State) (he : e.allows f = true)
    (hf : operandFits f r.operand = true) : WriteOutcome DevicesKept s (e.run r s) := by
  cases e with
  | onCpu g => exact .of_cpu s _
  | reads g =>
    obtain ⟨v, t, h⟩ := load_ok s he hf
    simp only [run, readEffect, h]
    exact (load_access h).toDevicesKept.trans (.of_cpu t _)
  | stores v =>
    obtain ⟨a, ha⟩ := fits_address he hf
    simp only [run, storeEffect, ha, store]
    exact (memWrite_outcome a _ s).map fun _ h => h.toDevicesKept
  | modifies g h =>
    simp only [allows, Bool.or_eq_true, decide_eq_true_eq] at he
    rcases he with he | he
    · obtain ⟨a, ha⟩ := fits_address he hf
      have hread := (memRead_access a s).toDevicesKept.trans
        (.of_cpu _ (g (memRead a s).1 (memRead a s).2.cpu).2)
      have hwrite := memWrite_outcome a (g (memRead a s).1 (memRead a s).2.cpu).1
        { (memRead a s).2 with cpu := (g (memRead a s).1 (memRead a s).2.cpu).2 }
      simp only [run, rmwEffect, ha, rmw]
      generalize memWrite a _ _ = w at hwrite ⊢
      cases w with
      | ok u => exact hread.trans (hwrite.toDevicesKept.trans (.of_cpu u _))
      | error e => exact hwrite.map fun _ hu => hread.trans hu.toDevicesKept
    · simp only [run, rmwEffect, fits_acc he hf, rmw]
      exact .of_cpu s _
  | pushes v => exact ⟨rfl, id⟩
  | pulls g => exact .of_cpu s _
  | looks =>
    simp only [run, nopEffect]
    split
    · exact (memRead_access _ s).toDevicesKept
    · exact .refl s

/-- The operand of a well-formed instruction is one its primitive has a case for. -/
theorem effect_allows {i : Instr} {e : Effect} (hw : i.wellFormed = true) (h : meaningOf i = .effect e) :
    e.allows i.form = true := by
  cases i with
  | lda f | ldx f | ldy f | sta f | stx f | sty f | adc f | sbc f | and f | ora f | eor f | bit f | cmp f
  | cpx f | cpy f | inc f | dec f | asl f | lsr f | rol f | ror f | lax f | sax f | dcp f | isc f | slo f
  | rla f | sre f | rra f => 
    cases h
    cases f <;> simp_all [Effect.allows, isAddressForm, Form.mode, Instr.form, Instr.wellFormed, readModes,
      shiftModes, rmwModes]
  | _ => cases h <;> rfl

theorem takeInterrupt_devices (ret : Word) (image : Byte) (vec : Word) (s : State) :
    DevicesKept s (takeInterrupt ret image vec s).2 := by
  have h : DevicesKept s (mapCpu (setI true) (push image (pushWord ret s))) := ⟨rfl, id⟩
  exact h.trans (read16_access vec _).toDevicesKept

/-- A jump pushes, pulls and reads its vector, and no more (R701 to R706, R860). -/
theorem jump_devices {i : Instr} {e : Inflight → State → Word × State} (h : meaningOf i = .jump e)
    (r : Inflight) (s : State) : DevicesKept s (e r s).2 := by
  cases i with
  | jsr a => cases h; exact ⟨rfl, id⟩
  | brk => cases h; exact takeInterrupt_devices _ _ _ s
  | _ => cases h <;> exact .of_cpu s _

theorem unstable_row {op : Byte} (h : op ∈ [(0x8B : Byte), 0xAB, 0x93, 0x9F, 0x9E, 0x9C, 0x9B]) :
    (opRow op).cls = .unstable := by
  revert op; decide

/-- A well-formed instruction that is refused is one of set U (R840 to R845). -/
theorem refused_unstable {i : Instr} {op : Byte} (hw : i.wellFormed = true)
    (h : meaningOf i = .refused op) : (opRow op).cls = .unstable := by
  cases i with
  | xaa b => cases h; exact unstable_row (op := 0x8B) (by decide)
  | lxa b => cases h; exact unstable_row (op := 0xAB) (by decide)
  | sha f =>
    cases h
    cases f with
    | izy z => exact unstable_row (op := 0x93) (by decide)
    | aby a => exact unstable_row (op := 0x9F) (by decide)
    | _ => cases hw
  | shx a => cases h; exact unstable_row (op := 0x9E) (by decide)
  | shy a => cases h; exact unstable_row (op := 0x9C) (by decide)
  | tas a => cases h; exact unstable_row (op := 0x9B) (by decide)
  | _ => cases h

end Sys2Proof.Machine

/-! ## The invariant and the stops, from the opcode table to the step (R400, R401, R1501) -/

namespace Sys2Proof.Machine

/-! ### The opcode table -/

theorem nthOr_cases {α : Type} (d : α) (l : List α) (n : Nat) : nthOr d l n = d ∨ nthOr d l n ∈ l := by
  induction l generalizing n with
  | nil => exact .inl rfl
  | cons x xs ih =>
    cases n with
    | zero => exact .inr List.mem_cons_self
    | succ n => exact (ih n).imp_right (List.mem_cons_of_mem x)

/-- What holds of every row the table lists, and of the fallback row, holds of every row. -/
theorem opRow_all {p : OpRow → Bool} (htable : opTable.all (fun row => row.all p) = true)
    (hfallback : p ⟨fun _ _ => .nop, .imp, 2, false, .official⟩ = true) (op : Byte) :
    p (opRow op) = true := by
  unfold opRow
  rcases nthOr_cases _ (nthOr [] opTable (op.toNat / 16)) (op.toNat % 16) with h | h
  · rw [h]; exact hfallback
  · rcases nthOr_cases [] opTable (op.toNat / 16) with hrow | hrow
    · rw [hrow] at h; cases h
    · exact List.all_eq_true.1 (List.all_eq_true.1 htable _ hrow) _ h

/-- Every opcode byte decodes to a well-formed instruction, whatever its operand bytes (R331). -/
theorem decodeInstr_wellFormed (op b1 b2 : Byte) : (decodeInstr op b1 b2).wellFormed = true :=
  opRow_all (p := fun r => (r.make b1 b2).wellFormed) rfl rfl op

/-- Every row takes two cycles at least (R321). -/
theorem two_le_base (i : Instr) : 2 ≤ i.row.base :=
  of_decide_eq_true (opRow_all (p := fun r => decide (2 ≤ r.base)) (by decide) (by decide) i.opcode)

/-! ### The parts of the invariant -/

/-- A record in flight is sound (R120). -/
def Inflight.Sound (r : Inflight) : Prop :=
  2 ≤ r.total ∧ r.elapsed < r.total ∧
    ∀ i, r.kind = .op i → i.wellFormed = true ∧ operandFits i.form r.operand = true

/-- The invariant's other parts: the fixed bits of P and the ranges of the devices. -/
def State.InvRest (s : State) : Prop := statusOk s = true ∧ ppuInRange s = true ∧ apuInRange s = true

theorem inv_iff (s : State) : s.Inv ↔ s.InvRest ∧ ∀ r, s.cpu.inflight = some r → r.Sound := by
  have hrec : recordSound s = true ↔ ∀ r, s.cpu.inflight = some r → r.Sound := by
    unfold recordSound Inflight.Sound
    cases s.cpu.inflight with
    | none => simp
    | some r => cases hk : r.kind <;> simp [hk, and_assoc]
  rw [← hrec, State.Inv, State.InvRest]
  tauto

/-- Of the CPU, only P is in the rest of the invariant (R110). -/
theorem State.InvRest.of_cpu {s : State} {c : Cpu} (hs : s.InvRest) (hp : c.p = s.cpu.p) :
    State.InvRest { s with cpu := c } :=
  ⟨by rw [← hs.1, statusOk, statusOk, hp], hs.2⟩

/-- With nothing in flight there is no record to be sound. -/
theorem inv_of_devices {s t : State} (hs : s.InvRest) (ht : DevicesKept s t) (hp : statusOk t = true)
    (hr : t.cpu.inflight = none) : t.Inv := by
  obtain ⟨-, hppu, hapu⟩ := hs
  exact (inv_iff t).2 ⟨⟨hp, ht.ppuInRange_eq.trans hppu, ht.range hapu⟩, by simp [hr]⟩

/-! ### Lawful outcomes -/

/-- The run-level marks are as before (R124). -/
def SameMarks (s t : State) : Prop := t.fault = s.fault ∧ t.refused = s.refused

/-- The outcomes the spec gives (R15, R16): a next state with `P`, `Fault(RomWrite)`, or the refusal of a
set U opcode, each in a state whose marks are those of `s`. -/
def Lawful (P : State → Prop) (s : State) : Host.Outcome State Fault Refusal → Prop
  | .next t => P t ∧ SameMarks s t
  | .fault f => ∃ u, f = raise .romWrite u ∧ SameMarks s u
  | .refused r => ∃ op u, (opRow op).cls = .unstable ∧ r = refuse (.unstableOpcode op) u ∧ SameMarks s u

theorem SameMarks.refl (s : State) : SameMarks s s := ⟨rfl, rfl⟩

theorem SameMarks.trans {s t u : State} (h : SameMarks s t) (h' : SameMarks t u) : SameMarks s u :=
  ⟨h'.1.trans h.1, h'.2.trans h.2⟩

theorem DevicesKept.marks {s t : State} (h : DevicesKept s t) : SameMarks s t := ⟨h.fault, h.refused⟩

theorem CycleKept.marks {s t : State} (h : CycleKept s t) : SameMarks s t := ⟨h.fault, h.refused⟩

/-- What starts from a state with the same marks. -/
theorem Lawful.of_marks {P : State → Prop} {s t : State} {o : Host.Outcome State Fault Refusal}
    (hm : SameMarks s t) (h : Lawful P t o) : Lawful P s o := by
  cases o with
  | next u => exact ⟨h.1, hm.trans h.2⟩
  | fault f => obtain ⟨u, hf, hu⟩ := h; exact ⟨u, hf, hm.trans hu⟩
  | refused r => obtain ⟨op, u, hop, hr, hu⟩ := h; exact ⟨op, u, hop, hr, hm.trans hu⟩

/-! ### Completion (R404) -/

/-- Completing a well-formed instruction with a record of it: how it can end, and what it does to the
devices. -/
theorem exec_devices {i : Instr} {s : State} (hw : i.wellFormed = true) (hf : recordFits i s = true) :
    Lawful (fun t => DevicesKept s t ∧ t.cpu.inflight = none) s (exec i s) := by
  have hpre := (preOf_access i s).toDevicesKept
  rw [exec_eq_run]
  cases hm : meaningOf i with
  | effect e =>
    have hout := e.run_outcome (preOf i s) (effect_allows hw hm) (rec_of_fits i s hf)
    cases hrun : e.run (recOf i s) (preOf i s) with
    | ok u =>
      rw [hrun] at hout
      have hkept : DevicesKept s (endsAt (pastPc i s) u) := hpre.trans (hout.trans (.of_cpu u _))
      rw [Meaning.run, run_instr_ok i _ s u hrun]
      exact ⟨⟨hkept, rfl⟩, hkept.marks⟩
    | error f =>
      rw [hrun] at hout
      obtain ⟨u, hu, hkept⟩ := hout
      rw [Meaning.run, run_instr_error i _ s f hrun]
      exact ⟨u, hu, (hpre.trans hkept).marks⟩
  | jump e =>
    have hkept : ∀ pc, DevicesKept s (endsAt pc (e (recOf i s) (preOf i s)).2) := fun pc =>
      hpre.trans ((jump_devices hm _ _).trans (.of_cpu _ _))
    exact ⟨⟨hkept _, rfl⟩, (hkept _).marks⟩
  | refused op => exact ⟨op, s, refused_unstable hw hm, rfl, .refl s⟩

/-- An instruction keeps the fixed bits of P (R110, R111). -/
theorem exec_statusOk {i : Instr} {s t : State} (hw : i.wellFormed = true) (hf : recordFits i s = true)
    (hs : statusOk s = true) (ht : exec i s = .next t) : statusOk t = true := by
  obtain ⟨-, -, -, -, -, hkeep, hpull⟩ := flagFrame i s t hw hf ht
  unfold statusOk at hs ⊢
  by_cases hi : i = .plp ∨ i = .rti
  · simp only [hpull hi, Bool.not_false, Bool.and_self]
  · rw [(hkeep (not_or.1 hi)).1, (hkeep (not_or.1 hi)).2, hs]

theorem exec_lawful {i : Instr} {s : State} (hw : i.wellFormed = true) (hf : recordFits i s = true)
    (hs : s.InvRest) : Lawful State.Inv s (exec i s) := by
  have h := exec_devices hw hf
  cases ho : exec i s with
  | next t =>
    rw [ho] at h
    obtain ⟨⟨hkept, hr⟩, hm⟩ := h
    exact ⟨inv_of_devices hs hkept (exec_statusOk hw hf hs.1 ho) hr, hm⟩
  | fault f => rwa [ho] at h
  | refused r => rwa [ho] at h

theorem takeInterrupt_p (ret : Word) (image : Byte) (vec : Word) (s : State) :
    (takeInterrupt ret image vec s).2.cpu.p = setBit 2 true s.cpu.p := by
  simp [takeInterrupt, pushWord]

/-- A sequence reads its vector, and an interrupt pushes first and sets I (R911, R1551). -/
theorem seqEffect_kept (q : SeqKind) (r : Inflight) (s : State) :
    DevicesKept s (seqEffect q r s).2 ∧
      ((seqEffect q r s).2.cpu.p = s.cpu.p ∨ (seqEffect q r s).2.cpu.p = setBit 2 true s.cpu.p) := by
  cases q <;> simp only [seqEffect]
  · exact ⟨(read16_access _ s).toDevicesKept, .inl (read16_p _ s)⟩
  · exact ⟨takeInterrupt_devices _ _ _ s, .inr (takeInterrupt_p _ _ _ s)⟩
  · exact ⟨takeInterrupt_devices _ _ _ s, .inr (takeInterrupt_p _ _ _ s)⟩

theorem completeSeq_lawful (q : SeqKind) (r : Inflight) {s : State} (hs : s.InvRest) :
    Lawful State.Inv s (.next (completeSeq q r s)) := by
  obtain ⟨hkept, hp⟩ := seqEffect_kept q r s
  have hall : DevicesKept s (completeSeq q r s) := hkept.trans (.of_cpu _ _)
  have hstatus : statusOk (completeSeq q r s) = statusOk s := by
    rcases hp with hp | hp <;> simp [statusOk, completeSeq, hp]
  exact ⟨inv_of_devices hs hall (hstatus.trans hs.1) rfl, hall.marks⟩

/-- Completing a sound record that is in flight. -/
theorem complete_lawful {r : Inflight} {s : State} (hs : s.InvRest) (hr : s.cpu.inflight = some r)
    (hfit : ∀ i, r.kind = .op i → i.wellFormed = true ∧ operandFits i.form r.operand = true) :
    Lawful State.Inv s (complete r s) := by
  unfold complete
  cases hk : r.kind with
  | op i => exact exec_lawful (hfit i hk).1 (by simp only [recordFits, hr, (hfit i hk).2]) hs
  | seq q => exact completeSeq_lawful q r hs

/-! ### The CPU's step (R400) -/

/-- The poll and the count change the CPU alone: its latches, and the record's count and hijack mark. -/
theorem counted_eq (r : Inflight) (s : State) (h : s.cpu.inflight = some r) :
    ∃ c hit, countElapsed (pollAtEntry r s) = { s with cpu := c } ∧ c.p = s.cpu.p ∧
      c.inflight = some { r with hijacked := hit, elapsed := r.elapsed + 1 } := by
  unfold pollAtEntry poll
  split
  · split
    · exact ⟨_, _, rfl, rfl, rfl⟩
    · exact ⟨_, _, rfl, rfl, rfl⟩
    · exact ⟨_, r.hijacked, rfl, rfl, by simp [h]⟩
  · exact ⟨_, r.hijacked, rfl, rfl, by simp [h]⟩

/-- One cycle of what is in flight: the record counts on below its total, or completes. -/
theorem advanceInflight_lawful {s : State} (hs : s.Inv) : Lawful State.Inv s (advanceInflight s) := by
  obtain ⟨hrest, hsound⟩ := (inv_iff s).1 hs
  unfold advanceInflight
  cases h : s.cpu.inflight with
  | none => exact ⟨hs, .refl s⟩
  | some r =>
    obtain ⟨htotal, helapsed, hfit⟩ := hsound r h
    obtain ⟨c, hit, hcounted, hp, hr⟩ := counted_eq r s h
    have hmarks : SameMarks s { s with cpu := c } := ⟨rfl, rfl⟩
    simp only [hcounted, hr]
    split
    · exact (complete_lawful (hrest.of_cpu hp) hr hfit).of_marks hmarks
    · next hmore =>
      refine ⟨(inv_iff _).2 ⟨hrest.of_cpu hp, ?_⟩, hmarks⟩
      intro r' hr'
      obtain rfl := Option.some.inj (hr.symm.trans hr')
      exact ⟨htotal, by simp only at hmore ⊢; omega, hfit⟩

/-- The record a fetch puts in flight is sound (R401). -/
theorem issue_inv {i : Instr} {s : State} (hw : i.wellFormed = true) (hs : s.Inv) : (issue i s).Inv := by
  have hpre : (newRecord i s).2.Inv := (CycleKept.of_access (newRecord_access i s)).inv hs
  have hrest := ((inv_iff _).1 hpre).1
  refine (inv_iff _).2 ⟨hrest.of_cpu rfl, ?_⟩
  rintro r ⟨⟩
  have hbase := two_le_base i
  refine ⟨?_, ?_, ?_⟩
  · simp only; omega
  · simp only; omega
  · rintro i' ⟨⟩
    exact ⟨hw, resolve_fits _ _ s⟩

theorem fetchOperands_access (row : OpRow) (pc0 : Word) (s : State) :
    BusAccess s (fetchOperands row pc0 s).2.2 := by
  unfold fetchOperands
  split
  · exact memRead_access _ s
  · exact (memRead_access _ s).trans (memRead_access _ _)
  · exact .refl s

theorem fetchInstr_lawful {s : State} (hs : s.Inv) : Lawful State.Inv s (fetchInstr s) := by
  have hop := CycleKept.of_access (memRead_access s.cpu.pc s)
  simp only [fetchInstr]
  split
  · next hu => exact ⟨_, _, hu, rfl, hop.marks⟩
  · have hall := hop.trans (.of_access (fetchOperands_access (opRow (memRead s.cpu.pc s).1) s.cpu.pc _))
    exact ⟨issue_inv (decodeInstr_wellFormed _ _ _) (hall.inv hs),
      hall.marks.trans (newRecord_access _ _).marks⟩

theorem startSequence_inv (q : SeqKind) {s : State} (hs : s.Inv) : (startSequence q s).Inv := by
  refine (inv_iff _).2 ⟨((inv_iff s).1 hs).1.of_cpu rfl, ?_⟩
  rintro r ⟨⟩
  exact ⟨by simp, by simp, nofun⟩

theorem fetch_lawful {s : State} (hs : s.Inv) : Lawful State.Inv s (fetch s) := by
  unfold fetch
  split
  · next q h =>
    have hclear : State.Inv (mapCpu (fun c => { c with intReq := none }) s) :=
      (inv_iff _).2 ((inv_iff s).1 hs)
    exact ⟨startSequence_inv _ hclear, rfl, rfl⟩
  · exact fetchInstr_lawful hs

theorem cpuStep_lawful {s : State} (hs : s.Inv) : Lawful State.Inv s (cpuStep s) := by
  unfold cpuStep
  split
  · exact ⟨hs, .refl s⟩
  · split
    · exact ⟨(inv_iff _).2 ((inv_iff s).1 hs), rfl, rfl⟩
    · split
      · exact advanceInflight_lawful hs
      · have hf := fetch_lawful hs
        split
        · next t ht => rw [ht] at hf; exact (advanceInflight_lawful hf.1).of_marks hf.2
        · next f hf' => rwa [hf'] at hf
        · next r hr => rwa [hr] at hf

/-! ### Cycles and steps (R1501) -/

/-- A state with a mark, which takes no further step (R16, R124). -/
def Marked (s : State) : Prop := s.fault ≠ none ∨ s.refused ≠ none

theorem cycle_unmarked {s : State} (hf : s.fault = none) (hr : s.refused = none) :
    cycle s = thenDevices (cpuStep s) := by
  rw [cycle, hf, hr]
  rfl

/-- A marked state answers its stop again, unchanged (log entry 11). -/
theorem cycle_marked {s : State} (h : Marked s) :
    (∀ t, cycle s ≠ .next t) ∧ cycleState s = s := by
  unfold cycleState cycle
  cases hf : s.fault with
  | some k => simp [← hf]
  | none =>
    cases hr : s.refused with
    | some r => simp [← hr]
    | none => simp [Marked, hf, hr] at h

theorem cycle_lawful {s : State} (hs : s.Inv) (hf : s.fault = none) (hr : s.refused = none) :
    Lawful State.Inv s (cycle s) := by
  rw [cycle_unmarked hf hr]
  have h := cpuStep_lawful hs
  cases hc : cpuStep s with
  | next t =>
    rw [hc] at h
    have hk := afterCpu_kept t
    exact ⟨hk.inv h.1, h.2.trans hk.marks⟩
  | fault f => rwa [hc] at h
  | refused r => rwa [hc] at h

theorem runToBoundary_lawful {s : State} (n : Nat) (hs : s.Inv) (hf : s.fault = none)
    (hr : s.refused = none) : Lawful State.Inv s (runToBoundary n s) := by
  induction n generalizing s with
  | zero => exact ⟨hs, .refl s⟩
  | succ n ih =>
    have h := cycle_lawful hs hf hr
    unfold runToBoundary
    split
    · next t ht =>
      rw [ht] at h
      obtain ⟨hinv, hm⟩ := h
      split
      · exact ⟨hinv, hm⟩
      · exact (ih hinv (hm.1.trans hf) (hm.2.trans hr)).of_marks hm
    · next f hc => rwa [hc] at h
    · next r hc => rwa [hc] at h

/-- A step's bound leaves room for a cycle, so a marked state answers no next state. -/
theorem step_marked {s t : State} (h : Marked s) : step s ≠ .next t := by
  obtain ⟨n, hn⟩ : ∃ n, stepFuel s = n + 1 := by
    unfold stepFuel
    split <;> exact ⟨_, rfl⟩
  rw [step, hn, runToBoundary]
  have hc := (cycle_marked h).1
  split
  · next u hu => exact absurd hu (hc u)
  · nofun
  · nofun

/-- Settles O59, by way of `Lawful`: from an unmarked state every step is lawful, and from a marked one none
answers a next state. -/
theorem invariantKept : Obligations.InvariantKept := by
  intro s t hs ht
  have hf : s.fault = none := by
    by_contra h
    exact step_marked (.inl h) ht
  have hr : s.refused = none := by
    by_contra h
    exact step_marked (.inr h) ht
  have h := runToBoundary_lawful (stepFuel s) hs hf hr
  rw [← step, ht] at h
  exact h.1

/-- Settles O60: a step is lawful from an unmarked state with the invariant; a stop of the CPU's step is the
cycle's own outcome; and a marked state is a fixed point of the cycle. -/
theorem onlyTheSpecsStops : Obligations.OnlyTheSpecsStops := by
  refine ⟨fun s hs hf hr => ?_, fun s t hf hr => ⟨fun h => ?_, fun op h => ?_⟩, fun n s h => ?_⟩
  · have h : Lawful State.Inv s (step s) := runToBoundary_lawful (stepFuel s) hs hf hr
    cases hstep : step s with
    | next t =>
      rw [hstep] at h
      exact .inl ⟨t, rfl, h.2.1.trans hf, h.2.2.trans hr⟩
    | fault f =>
      rw [hstep] at h
      obtain ⟨u, rfl, hm⟩ := h
      exact .inr (.inl ⟨_, rfl, rfl, hm.2.trans hr⟩)
    | refused r =>
      rw [hstep] at h
      obtain ⟨op, u, hop, rfl, hm⟩ := h
      exact .inr (.inr ⟨op, _, hop, rfl, hm.1.trans hf, rfl⟩)
  · rw [cycleState, cycle_unmarked hf hr, h]; exact ⟨rfl, rfl⟩
  · rw [cycleState, cycle_unmarked hf hr, h]; exact ⟨rfl, rfl⟩
  · induction n with
    | zero => rfl
    | succ n ih => rw [runCycles, (cycle_marked h).2, ih]

end Sys2Proof.Machine

/-! ## Reset (R140 to R145) -/

namespace Sys2Proof.Machine

/-- Settles O1: the power cycle gives each field its value of R140, and the RESET sequence's effect is the
read of its vector. -/
theorem powerCycleCpu : Obligations.PowerCycleCpu := by
  refine ⟨fun fill cart host => ?_, fun r s => rfl⟩
  exact ⟨rfl, rfl, rfl, rfl, rfl, ⟨_, rfl, rfl, rfl, rfl⟩, rfl, rfl, rfl, rfl, rfl, rfl, rfl⟩

/-- No render slot is valid after the power cycle (R141). -/
theorem powerUp_render_invalid (fill : Fill) (r : RenderSlot) (hr : r ∈ (Ppu.powerUp fill).render) :
    r.valid = false :=
  congrArg RenderSlot.valid (List.eq_of_mem_replicate hr)

/-- Settles O2: field by field for the devices (R141 to R145), and variant by variant for the mapper, whose
registers its power-up rule gives (R1412 to R1462). -/
theorem powerCycleDevices : Obligations.PowerCycleDevices := by
  intro fill cart host
  refine ⟨?ppu, ?apu, ?bus, ⟨rfl, rfl⟩, rfl, rfl, rfl, rfl, rfl, rfl, rfl, ?mapper⟩
  case ppu =>
    exact ⟨rfl, rfl, rfl, rfl, rfl, rfl, rfl, rfl, rfl, rfl, rfl, rfl, rfl, rfl, rfl, rfl, rfl, rfl,
      rfl, rfl, rfl, rfl, rfl, rfl, rfl, rfl, powerUp_render_invalid fill, rfl, rfl, fun _ _ => rfl⟩
  case apu => and_intros <;> rfl
  case bus => and_intros <;> rfl
  case mapper =>
    have rebuilt : ∀ m, cart.mapper = m → (State.powerCycle fill cart host).cart.mapper =
        m.powerUp cart.mirrorFlag := fun m h => congrArg (Mapper.powerUp cart.mirrorFlag) h
    refine ⟨rebuilt .nrom, fun m => rebuilt (.mmc1 m), fun b => rebuilt (.uxrom b),
      fun b => rebuilt (.cnrom b), fun m h => ⟨_, rebuilt (.mmc3 m) h, ?_⟩,
      fun b g => rebuilt (.axrom b g)⟩
    and_intros <;> rfl

/-- Settles O4: the reset state is one concrete state, and the power cycle gives the flag outright. -/
theorem resetMeetsInvariants : Obligations.ResetMeetsInvariants :=
  ⟨reset_mem_wf, by unfold State.Inv; decide, fun _ _ _ => rfl⟩

end Sys2Proof.Machine

/-! ## 20_memory.md: the bus map and the memories it leads to (R201, R210, R211, R230 to R232) -/

namespace Sys2Proof.Machine

/-! ### The router, region by region (R210, R211) -/

/-- A read of a write-only APU register (R210, R212). -/
theorem mem_read_apu (a : Word) (s : State) (h : 0x4000 ≤ a.toNat) (h' : a.toNat ≤ 0x4013) :
    memRead a s = (s.bus.apuLatch, s) := by
  rw [memRead, if_neg (by bv_omega), if_neg (by bv_omega), if_neg (by bv_omega), if_neg (by bv_omega),
    if_neg (by bv_omega), if_neg (by bv_omega), if_pos (by bv_omega)]

/-- A write of a PPU register (R211, R212). -/
theorem mem_write_ppu (a : Word) (d : Byte) (s : State) (h : 0x2000 ≤ a.toNat) (h' : a.toNat < 0x4000) :
    memWrite a d s = ppuRegWrite (a.toNat % 8) d (setPpuLatch d s) := by
  rw [memWrite, if_neg (by bv_omega), if_pos (by bv_omega)]

/-- A write of an APU register (R211, R212). -/
theorem mem_write_apu (a : Word) (d : Byte) (s : State) (h : 0x4000 ≤ a.toNat) (h' : a.toNat ≤ 0x4017)
    (hdma : a ≠ 0x4014) (hport : a ≠ 0x4016) : memWrite a d s =
      .ok { setApuLatch d s with apu := apuRegWrite s.t (a.toNat - 0x4000) d s.apu } := by
  rw [memWrite, if_neg (by bv_omega), if_neg (by bv_omega), if_neg hdma, if_neg hport, if_pos (by bv_omega)]

/-- A write of the unmapped range has no effect (R211, R213). -/
theorem mem_write_unmapped (a : Word) (d : Byte) (s : State) (h : 0x4018 ≤ a.toNat) (h' : a.toNat < 0x6000) :
    memWrite a d s = .ok s := by
  rw [memWrite, if_neg (by bv_omega), if_neg (by bv_omega), if_neg (by bv_omega), if_neg (by bv_omega),
    if_neg (by bv_omega), if_pos (by bv_omega)]

theorem mem_write_dma (d : Byte) (s : State) :
    memWrite 0x4014 d s = .ok (oamDma d (setPpuLatch d s)) := rfl

/-- A write of cartridge space (R211, R1402). -/
theorem mem_write_cart (a : Word) (d : Byte) (s : State) (h : 0x6000 ≤ a.toNat) :
    memWrite a d s = cartWrite a d s := by
  rw [memWrite, if_neg (by bv_omega), if_neg (by bv_omega), if_neg (by bv_omega), if_neg (by bv_omega),
    if_neg (by bv_omega), if_neg (by bv_omega)]

/-- The regions a write can be routed to (R211). -/
theorem address_region (a : Word) :
    a.toNat < 0x2000 ∨ (0x2000 ≤ a.toNat ∧ a.toNat < 0x4000) ∨ a = 0x4014 ∨ a = 0x4016 ∨
    (0x4000 ≤ a.toNat ∧ a.toNat ≤ 0x4017 ∧ a ≠ 0x4014 ∧ a ≠ 0x4016) ∨
    (0x4018 ≤ a.toNat ∧ a.toNat < 0x6000) ∨ 0x6000 ≤ a.toNat := by bv_omega

/-- Settles O20: the router's equation for each region of the map. -/
theorem busRouting : Obligations.BusRouting := by
  intro a d s
  refine ⟨fun h => ⟨mem_read_ram a s h, mem_write_ram a d s h⟩,
    fun h h' => ⟨mem_read_ppu a s h h', mem_write_ppu a d s h h'⟩, mem_read_apu a s, ?dma, ?status,
    ?port1, ?port2, mem_write_apu a d s,
    fun h h' => ⟨mem_read_unmapped a s h h', mem_write_unmapped a d s h h'⟩,
    fun h => ⟨mem_read_cart a s h, fun c hc => ?mapped, fun k hk => ?rom⟩⟩
  case dma => rintro rfl; exact ⟨rfl, rfl⟩
  case status => rintro rfl; rfl
  case port1 => rintro rfl; exact ⟨rfl, rfl⟩
  case port2 => rintro rfl; rfl
  case mapped => rw [mem_write_cart a d s h, cartWrite, hc]
  case rom =>
    rcases cpuWrite_cases s.cart a.toNat d with ⟨c, hc, -⟩ | hc <;> rw [hc] at hk <;> cases hk
    exact ⟨rfl, by rw [mem_write_cart a d s h, cartWrite, hc]; rfl⟩

/-! ### Reads after writes (R201, R240, R1403) -/

theorem cpuRead_prgRam (c : Cart) (a : Nat) (h : a < 0x8000) : c.cpuRead a = c.prgRam.read (a - 0x6000) :=
  if_pos h

theorem mem_write_prgRam (a : Word) (d : Byte) (s : State) (h : 0x6000 ≤ a.toNat) (h' : a.toNat < 0x8000) :
    memWrite a d s =
      .ok { s with cart := { s.cart with prgRam := s.cart.prgRam.write (a.toNat - 0x6000) d } } := by
  rw [mem_write_cart a d s h, cartWrite, Cart.cpuWrite, if_pos h']

/-- Settles O21, by the law of a read after a write of a memory. -/
theorem memoryReadAfterWrite : Obligations.MemoryReadAfterWrite := by
  intro a b d s
  refine ⟨fun ha hb => ⟨_, mem_write_ram a d s ha, ?_⟩,
    fun ha ha' hb hb' => ⟨_, mem_write_prgRam a d s ha ha', ?_⟩⟩
  · rw [mem_read_ram b _ hb, mem_read_ram b s hb, ramWrite_bus, mem_read_write]
    simp only [eq_comm]
  · have hindex : b.toNat - 0x6000 = a.toNat - 0x6000 ↔ a = b := by bv_omega
    rw [mem_read_cart b _ hb, mem_read_cart b s hb, cpuRead_prgRam _ _ hb', cpuRead_prgRam _ _ hb',
      mem_read_write]
    simp only [hindex]

/-! ### The index functions of the PPU bus (R231, R232) -/

/-- The rows of R231 for the two modes that show both banks. -/
theorem ntBank_rows : ∀ n < 4,
    ntBank .horizontal n = (if n = 0 ∨ n = 1 then 0 else 1) ∧
    ntBank .vertical n = (if n = 0 ∨ n = 2 then 0 else 1) := by decide

/-- The aliases of R232, on the five bits the index depends on. -/
theorem palIndex_low : ∀ i : BitVec 5, (if i &&& 0x13 = 0x10 then i &&& 0x0F else i).toNat =
    if i.toNat ∈ [16, 20, 24, 28] then i.toNat - 16 else i.toNat := by decide

/-- Settles O49: the bank by the rows of R231, and the palette index by the address's low five bits (R232). -/
theorem mirrorIndexes : Obligations.MirrorIndexes := by
  refine ⟨fun a _ _ => ?_, fun a => ?_⟩
  · obtain ⟨hhor, hver⟩ := ntBank_rows (a.toNat / 1024 % 4) (Nat.mod_lt _ (by decide))
    refine ⟨?_, ?_, ?_, ?_⟩
    · rw [ntIndex, hhor]
    · rw [ntIndex, hver]
    · simp [ntIndex, ntBank]
    · simp [ntIndex, ntBank]
  · have h := palIndex_low (a.setWidth 5)
    rwa [BitVec.toNat_setWidth] at h

end Sys2Proof.Machine

/-! ## Support for 20_memory.md: the memories of the machine, and what changes none of them -/

namespace Sys2Proof.Machine

/-- Everything the state stores by index (R201, R230, R250, R1401, R1403, R1406), with the lengths of the
images. -/
structure Memories where
  ram : Mem
  vram : Mem
  oam : Mem
  pal : Sparse (BitVec 6)
  prgRam : Mem
  chrRam : Mem
  prg : Mem
  prgLen : Nat
  chr : Mem
  chrLen : Nat
  fb : Picture

/-- The memories of a state. -/
def State.memories (s : State) : Memories :=
  { ram := s.bus.ram, vram := s.bus.vram, oam := s.ppu.oam, pal := s.ppu.pal, prgRam := s.cart.prgRam
    chrRam := s.cart.chrRam, prg := s.cart.prg, prgLen := s.cart.prgLen, chr := s.cart.chr
    chrLen := s.cart.chrLen, fb := s.ppu.fb }

theorem memWf_of_memories {s t : State} (h : t.memories = s.memories) (hs : s.memWf = true) :
    t.memWf = true := by
  simp only [State.memories, Memories.mk.injEq] at h
  simpa only [State.memWf, h] using hs

theorem sameMemory_of_memories {s t : State} (h : t.memories = s.memories) : SameMemory s t := by
  simp only [State.memories, Memories.mk.injEq] at h
  simp only [SameMemory, h, implies_true, and_self]

/-! ### A read of a bus changes no memory -/

theorem ppuRead_memories (a : BitVec 14) (s : State) : (ppuRead a s).2.memories = s.memories := by
  unfold ppuRead
  split_ifs <;> rfl

theorem ppuRegRead_memories (r : Nat) (s : State) : (ppuRegRead r s).2.memories = s.memories := by
  unfold ppuRegRead
  split
  · rfl
  · rfl
  · simp only [latchPpu, dataRead]
    split <;> exact ppuRead_memories _ s
  · rfl

/-- A controller read moves its own port alone (R1511). -/
theorem controllerRead1_state (s : State) : ∃ shift count,
    (controllerRead1 s).2 = { s with bus := { s.bus with shift1 := shift, count1 := count } } := by
  simp only [controllerRead1, loadPort1]
  split_ifs <;> exact ⟨_, _, rfl⟩

theorem controllerRead2_state (s : State) : ∃ shift count,
    (controllerRead2 s).2 = { s with bus := { s.bus with shift2 := shift, count2 := count } } := by
  simp only [controllerRead2, loadPort2]
  split_ifs <;> exact ⟨_, _, rfl⟩

theorem memRead_memories (a : Word) (s : State) : (memRead a s).2.memories = s.memories := by
  rcases mem_read_cases a s with h | h | h | h | h | h | h | h | h <;> rw [h]
  · exact ppuRegRead_memories _ s
  · rfl
  · obtain ⟨shift, count, h⟩ := controllerRead1_state s
    rw [h]; rfl
  · obtain ⟨shift, count, h⟩ := controllerRead2_state s
    rw [h]; rfl
  · rfl

theorem read16_memories (a : Word) (s : State) : (read16 a s).2.memories = s.memories :=
  (memRead_memories _ _).trans (memRead_memories a s)

theorem readPointer_memories (p : Word) (s : State) : (readPointer p s).2.memories = s.memories :=
  (memRead_memories _ _).trans (memRead_memories p s)

theorem newRecord_memories (i : Instr) (s : State) : (newRecord i s).2.memories = s.memories := by
  simp only [newRecord]
  cases i.form with
  | ind a => exact readPointer_memories a s
  | izx z => exact readPointer_memories _ s
  | izy z => exact readPointer_memories _ s
  | _ => rfl

theorem preOf_memories (i : Instr) (s : State) : (preOf i s).memories = s.memories := by
  unfold preOf
  cases h : s.cpu.inflight with
  | none => rw [record_of_none i s h]; exact newRecord_memories i s
  | some r => rw [record_of_some i s r h]

theorem load_memories {o : Operand} {s t : State} {v : Byte} (h : load o s = .ok (v, t)) :
    t.memories = s.memories := by
  rcases load_cases o s v t h with ⟨-, rfl⟩ | ⟨-, -, rfl⟩ | ⟨a, -, ha⟩
  · rfl
  · rfl
  · simpa only [ha] using memRead_memories a s

/-! ### The devices' part of a cycle changes no memory but the picture (R1501) -/

theorem bgFetch_memories (ph : Nat) (s : State) : (bgFetch ph s).memories = s.memories := by
  unfold bgFetch
  split
  · exact ppuRead_memories _ s
  · exact ppuRead_memories _ s
  · exact ppuRead_memories _ s
  · exact ppuRead_memories _ s
  · rfl
  · rfl

/-- What a change keeps, the change made on a condition keeps. -/
theorem view_ite {α β : Type} (π : α → β) {c : Prop} [Decidable c] {x y : α} (h : π y = π x) :
    π (if c then y else x) = π x := by
  split
  · exact h
  · rfl

/-- The PPU's memories: OAM, the palette and the picture. -/
def Ppu.memories (p : Ppu) : Mem × Sparse (BitVec 6) × Picture := (p.oam, p.pal, p.fb)

theorem memories_ppu {s : State} {p : Ppu} (h : p.memories = s.ppu.memories) :
    State.memories { s with ppu := p } = s.memories := by
  simp only [Ppu.memories, Prod.mk.injEq] at h
  simp only [State.memories, h]

theorem bgShiftReload_memories (d : Nat) (p : Ppu) : (bgShiftReload d p).memories = p.memories := by
  simp only [bgShiftReload]
  split_ifs <;> rfl

theorem bgScroll_memories (l d : Nat) (p : Ppu) : (bgScroll l d p).memories = p.memories := by
  simp only [bgScroll]
  split_ifs <;> rfl

theorem bgStep_memories (l d : Nat) (s : State) : (bgStep l d s).memories = s.memories := by
  unfold bgStep
  lift_lets
  extract_lets s1 s2 s3
  have h1 : s1.memories = s.memories := memories_ppu (bgShiftReload_memories d _)
  have h2 : s2.memories = s1.memories := view_ite State.memories (bgFetch_memories _ _)
  have h3 : s3.memories = s2.memories := view_ite State.memories (ppuRead_memories _ _)
  have h4 : State.memories { s3 with ppu := bgScroll l d s3.ppu } = s3.memories :=
    memories_ppu (bgScroll_memories l d _)
  exact h4.trans (h3.trans (h2.trans h1))

theorem spriteSlotStep_memories (i q : Nat) (s : State) : (spriteSlotStep i q s).memories = s.memories := by
  simp only [spriteSlotStep]
  split
  · rfl
  · split <;> exact ppuRead_memories _ s
  · split <;> exact ppuRead_memories _ s
  · rfl

theorem spriteFetchStep_memories (d : Nat) (s : State) : (spriteFetchStep d s).memories = s.memories := by
  unfold spriteFetchStep
  split
  · rfl
  · exact spriteSlotStep_memories _ _ _

theorem spriteEval_memories (l : Nat) (p : Ppu) : (spriteEval l p).memories = p.memories := by
  unfold spriteEval
  split <;> rfl

theorem dotHead_memories (l d : Nat) (p : Ppu) : (dotHead l d p).memories = p.memories := by
  unfold dotHead
  lift_lets
  extract_lets p1 p2 p3
  have h1 : p1.memories = p.memories := view_ite Ppu.memories rfl
  have h2 : p2.memories = p1.memories := view_ite Ppu.memories rfl
  have h3 : p3.memories = p2.memories := view_ite Ppu.memories rfl
  exact (view_ite Ppu.memories (spriteEval_memories l p3)).trans (h3.trans (h2.trans h1))

theorem advance_memories (s : State) : (advance s).memories = s.memories := by
  simp only [advance, frameComplete]
  split_ifs <;> rfl

theorem outputPixel_memWf (l x : Nat) (s : State) (hl : l < 240) (hx : x < 256) (hs : s.memWf = true) :
    State.memWf { s with ppu := outputPixel l x s.ppu } = true := by
  rw [mem_wf_iff] at hs ⊢
  obtain ⟨hram, hvram, hoam, hpal, hprgRam, hchrRam, hprg, hchr, hfb⟩ := hs
  simp only [outputPixel]
  split <;> exact ⟨hram, hvram, hoam, hpal, hprgRam, hchrRam, hprg, hchr, picture_wf_set _ _ _ _ hl hx hfb⟩

theorem ppuDot_memWf (s : State) (hs : s.memWf = true) : (ppuDot s).memWf = true := by
  unfold ppuDot
  lift_lets
  extract_lets l d s1 s2 s3
  have h1 : s1.memories = s.memories := memories_ppu (dotHead_memories l d _)
  have h2 : s2.memories = s1.memories :=
    view_ite State.memories ((spriteFetchStep_memories _ _).trans (bgStep_memories _ _ _))
  have hs2 : s2.memWf = true := memWf_of_memories (h2.trans h1) hs
  have hs3 : s3.memWf = true := by
    unfold s3
    split
    · exact outputPixel_memWf _ _ _ (by omega) (by omega) hs2
    · exact hs2
  exact memWf_of_memories (advance_memories s3) hs3

theorem dmcReader_memories (s : State) : (dmcReader s).memories = s.memories := by
  unfold dmcReader
  split
  · exact memRead_memories s.apu.dmc.curAddr s
  · rfl

theorem apuStep_memories (s : State) : (apuStep s).memories = s.memories :=
  dmcReader_memories { s with apu := apuTimers s.t s.apu }

theorem dotAndDetect_memWf {s : State} (hs : s.memWf = true) : (dotAndDetect s).memWf = true :=
  ppuDot_memWf s hs

theorem tickT_memories (s : State) : (tickT s).memories = s.memories := rfl

theorem afterCpu_memWf (s : State) (hs : s.memWf = true) : (afterCpu s).memWf = true :=
  memWf_of_memories ((tickT_memories _).trans (apuStep_memories _))
    (dotAndDetect_memWf (dotAndDetect_memWf (dotAndDetect_memWf hs)))

end Sys2Proof.Machine

/-! ## Support for 20_memory.md: the memories stay in canonical form, and what an instruction does to them -/

namespace Sys2Proof.Machine

/-! ### Writes of the CPU bus -/

/-- A register write other than those of OAMDATA and PPUDATA completes and changes no memory. -/
theorem ppuRegWrite_other {r : Nat} (d : Byte) (s : State) (hr : r < 8) (h4 : r ≠ 4) (h7 : r ≠ 7) :
    ∃ t, ppuRegWrite r d s = .ok t ∧ t.memories = s.memories ∧ t.bus = s.bus := by
  have hcases : r = 0 ∨ r = 1 ∨ r = 2 ∨ r = 3 ∨ r = 5 ∨ r = 6 := by omega
  rcases hcases with rfl | rfl | rfl | rfl | rfl | rfl
  · refine ⟨_, rfl, ?_, ?_⟩ <;> (simp only [writePpuCtrl]; split <;> rfl)
  · exact ⟨_, rfl, rfl, rfl⟩
  · exact ⟨_, rfl, rfl, rfl⟩
  · exact ⟨_, rfl, rfl, rfl⟩
  · refine ⟨_, rfl, memories_ppu ?_, rfl⟩
    unfold writeScroll
    split <;> rfl
  · refine ⟨_, rfl, memories_ppu ?_, rfl⟩
    unfold writeVramAddr
    split <;> rfl

/-- A PPUDATA write that completes writes at v, then moves v (R1027). -/
theorem writeVramData_cases {d : Byte} {s t : State} (h : writeVramData d s = .ok t) :
    ∃ u, ppuWrite (vramAddress s) d s = .ok u ∧ t = { u with ppu := vramIncrement u.ppu } := by
  unfold writeVramData at h
  split at h <;> cases h
  next u hu => exact ⟨u, hu, rfl⟩

theorem ppuRegWrite_memWf {r : Nat} {d : Byte} {s t : State} (hr : r < 8) (hs : s.memWf = true)
    (h : ppuRegWrite r d s = .ok t) : t.memWf = true := by
  by_cases h4 : r = 4
  · subst h4
    cases h
    exact write_oam_data_mem_wf d s hs
  · by_cases h7 : r = 7
    · subst h7
      obtain ⟨u, hu, rfl⟩ := writeVramData_cases h
      exact memWf_of_memories (s := u) rfl (ppu_write_mem_wf _ d s u hs hu)
    · obtain ⟨u, hu, hm, -⟩ := ppuRegWrite_other d s hr h4 h7
      rw [hu] at h
      cases h
      exact memWf_of_memories hm hs

theorem oamDmaByte_memWf (a : Word) {s : State} (hs : s.memWf = true) : (oamDmaByte a s).memWf = true :=
  write_oam_data_mem_wf _ _ (memWf_of_memories (memRead_memories a s) hs)

theorem oamDmaFrom_memWf (d : Byte) (n : Nat) {s : State} (hs : s.memWf = true) :
    (oamDmaFrom d n s).memWf = true := by
  induction n generalizing s with
  | zero => exact hs
  | succ n ih => exact ih (oamDmaByte_memWf _ hs)

theorem controllerWrite_memories (d : Byte) (s : State) : (controllerWrite d s).memories = s.memories := by
  simp only [controllerWrite, loadPort1, loadPort2]
  split_ifs <;> rfl

theorem apuWrite_memories (u : Apu) (d : Byte) (s : State) :
    State.memories { setApuLatch d s with apu := u } = s.memories := rfl

theorem oamDma_memWf (d : Byte) {s : State} (hs : s.memWf = true) : (oamDma d s).memWf = true :=
  oamDmaFrom_memWf d 256 hs

/-- A write of the CPU bus that completes keeps the canonical form (R211). -/
theorem memWrite_memWf {a : Word} {d : Byte} {s t : State} (hs : s.memWf = true)
    (h : memWrite a d s = .ok t) : t.memWf = true := by
  rcases address_region a with ha | ⟨ha, ha'⟩ | rfl | rfl | ⟨ha, ha', hdma, hport⟩ | ⟨ha, ha'⟩ | ha
  · rw [mem_write_ram a d s ha] at h
    cases h
    exact ram_write_mem_wf _ d s (Nat.mod_lt _ (by decide)) hs
  · rw [mem_write_ppu a d s ha ha'] at h
    exact ppuRegWrite_memWf (s := setPpuLatch d s) (Nat.mod_lt _ (by decide)) hs h
  · rw [mem_write_dma] at h
    rw [← Except.ok.inj h]
    exact oamDma_memWf d (s := setPpuLatch d s) hs
  · cases h
    exact memWf_of_memories (controllerWrite_memories d s) hs
  · rw [mem_write_apu a d s ha ha' hdma hport] at h
    cases h
    exact memWf_of_memories (apuWrite_memories _ d s) hs
  · rw [mem_write_unmapped a d s ha ha'] at h
    cases h
    exact hs
  · rw [mem_write_cart a d s ha] at h
    exact cart_write_mem_wf a d s t ha hs h

/-! ### What an instruction does to the memories -/

/-- What console RAM holds after pushes from the stack pointer `sp` on (R102). -/
def pushedRam : Byte → List Byte → Mem → Mem
  | _, [], m => m
  | sp, b :: bs, m => pushedRam (sp - 1) bs (m.write (stackIndex sp) b)

theorem pushedRam_read_other {sp : Byte} {bs : List Byte} {m : Mem} {n : Nat}
    (h : ∀ k < bs.length, n ≠ stackIndex (sp - BitVec.ofNat 8 k)) :
    (pushedRam sp bs m).read n = m.read n := by
  induction bs generalizing sp m with
  | nil => rfl
  | cons b bs ih =>
    have hfirst : n ≠ stackIndex sp := by simpa using h 0 (by simp)
    rw [pushedRam, ih, mem_read_write_other _ _ _ _ hfirst]
    intro k hk
    have hstep : sp - 1 - BitVec.ofNat 8 k = sp - BitVec.ofNat 8 (k + 1) := by
      rw [BitVec.ofNat_add, BitVec.sub_sub, BitVec.add_comm]
      rfl
    rw [hstep]
    exact h (k + 1) (by simpa using hk)

theorem pushedRam_wf {sp : Byte} {bs : List Byte} {m : Mem} (h : m.wf 2048 = true) :
    (pushedRam sp bs m).wf 2048 = true := by
  induction bs generalizing sp m with
  | nil => exact h
  | cons b bs ih =>
    have hsp := (stack_address sp).2
    exact ih (mem_wf_write _ _ _ _ (by omega) h)

/-- The memories after pushes. -/
def State.pushedMemories (s : State) (bs : List Byte) : Memories :=
  { s.memories with ram := pushedRam s.cpu.s bs s.bus.ram }

theorem memWf_of_pushed {s t : State} {bs : List Byte} (h : t.memories = s.pushedMemories bs)
    (hs : s.memWf = true) : t.memWf = true := by
  simp only [State.memories, State.pushedMemories, Memories.mk.injEq] at h
  rw [mem_wf_iff] at hs ⊢
  simp only [h]
  exact ⟨pushedRam_wf hs.1, hs.2⟩

theorem push_memories (v : Byte) (s : State) : (push v s).memories = s.pushedMemories [v] := rfl

theorem pushWord_memories (w : Word) (s : State) :
    (pushWord w s).memories = s.pushedMemories [highByte w, lowByte w] := rfl

theorem takeInterrupt_memories (ret : Word) (image : Byte) (vec : Word) (s : State) :
    (takeInterrupt ret image vec s).2.memories =
      s.pushedMemories [highByte ret, lowByte ret, image] :=
  read16_memories vec (mapCpu (setI true) (push image (pushWord ret s)))

/-- How many bytes an instruction that pushes pushes (R530, R531, R703, R706). -/
def pushCount : Instr → Nat
  | .brk => 3
  | .jsr _ => 2
  | _ => 1

theorem memories_of_effect {i : Instr} {e : Effect} {s t : State} (hm : meaningOf i = .effect e)
    (h : exec i s = .next t) : ∃ u, e.run (recOf i s) (preOf i s) = .ok u ∧ t.memories = u.memories := by
  rw [exec_eq_run, hm] at h
  obtain ⟨u, hu, rfl⟩ := run_instr_cases i e.run s t h
  exact ⟨u, hu, rfl⟩

theorem memories_of_jump {i : Instr} {e : Inflight → State → Word × State} {s t : State}
    (hm : meaningOf i = .jump e) (h : exec i s = .next t) :
    t.memories = (e (recOf i s) (preOf i s)).2.memories := by
  rw [exec_eq_run, hm, Meaning.run, run_jump_eq] at h
  cases h
  rfl

theorem preOf_pushed (i : Instr) (s : State) (bs : List Byte) :
    (preOf i s).pushedMemories bs = s.pushedMemories bs := by
  have hs : (preOf i s).cpu.s = s.cpu.s := congrArg Regs.s (preOf_access i s).regs
  have hm := preOf_memories i s
  have hram : (preOf i s).bus.ram = s.bus.ram := congrArg Memories.ram hm
  rw [State.pushedMemories, State.pushedMemories, hm, hs, hram]

/-- An instruction that pushes changes console RAM alone, at the bytes it pushes. -/
theorem exec_push_memories {i : Instr} {s t : State} (hp : pushes i = true) (h : exec i s = .next t) :
    ∃ bs, bs.length = pushCount i ∧ t.memories = s.pushedMemories bs := by
  cases i with
  | pha | php =>
    obtain ⟨u, hu, ht⟩ := memories_of_effect rfl h
    cases hu
    exact ⟨_, rfl, ht.trans ((push_memories _ _).trans (preOf_pushed _ s _))⟩
  | jsr a =>
    have ht := memories_of_jump (i := .jsr a) rfl h
    exact ⟨_, rfl, ht.trans ((pushWord_memories _ _).trans (preOf_pushed _ s _))⟩
  | brk =>
    have ht := memories_of_jump (i := .brk) rfl h
    exact ⟨_, rfl, ht.trans ((takeInterrupt_memories _ _ _ _).trans (preOf_pushed _ s _))⟩
  | _ => cases hp

/-- The effects that neither store nor push. -/
def Effect.onlyReads : Effect → Bool
  | stores _ | modifies _ _ | pushes _ => false
  | _ => true

theorem effect_onlyReads {i : Instr} {e : Effect} (hw : writesMemory i = false) (hp : pushes i = false)
    (hm : meaningOf i = .effect e) : e.onlyReads = true := by
  cases i with
  | sta _ | stx _ | sty _ | sax _ | asl _ | lsr _ | rol _ | ror _ | inc _ | dec _ | slo _ | rla _ | sre _
  | rra _ | dcp _ | isc _ => cases hw
  | pha | php => cases hp
  | _ => cases hm <;> rfl

theorem Effect.read_memories {e : Effect} {r : Inflight} {s t : State} (he : e.onlyReads = true)
    (h : e.run r s = .ok t) : t.memories = s.memories := by
  cases e with
  | onCpu g => cases h; rfl
  | reads g =>
    simp only [run, readEffect] at h
    split at h <;> cases h
    next v u hu => exact load_memories (t := u) hu
  | stores v => cases he
  | modifies f g => cases he
  | pushes v => cases he
  | pulls g => cases h; rfl
  | looks =>
    simp only [run, nopEffect] at h
    split at h <;> cases h
    · exact memRead_memories _ s
    · rfl

/-- An instruction that neither stores nor pushes changes no memory. -/
theorem exec_read_memories {i : Instr} {s t : State} (hw : writesMemory i = false)
    (hp : pushes i = false) (h : exec i s = .next t) : t.memories = s.memories := by
  cases hm : meaningOf i with
  | effect e =>
    obtain ⟨u, hu, ht⟩ := memories_of_effect hm h
    have hread := Effect.read_memories (effect_onlyReads hw hp hm) hu
    exact ht.trans (hread.trans (preOf_memories i s))
  | jump e =>
    rw [memories_of_jump hm h, ← preOf_memories i s]
    cases i with
    | jsr _ | brk => cases hp
    | _ => cases hm <;> rfl
  | refused op => rw [exec_eq_run, hm] at h; cases h

/-- Bit 0 of a byte, alone, at bit 0 and at bit 7. -/
theorem flagByte_bit0 (b : Byte) :
    flagByte (b.getLsbD 0) 0 = b &&& 1 ∧ flagByte (b.getLsbD 0) 7 = (b &&& 1) <<< 7 := by
  revert b; decide

theorem setC_eq_carryIn (b : Byte) (c : Cpu) : setC (b.getLsbD 0) c = carryIn b c := by
  have hp : setBit 0 (b.getLsbD 0) c.p = (c.p &&& 0xFE) ||| (b &&& 1) := by
    rw [setBit, (flagByte_bit0 b).1]; rfl
  rw [setC, hp, carryIn]

theorem shiftLeft_eq (m : Byte) (c : Cpu) : shiftLeft m c = (m <<< 1, carryIn (m >>> 7) c) := by
  rw [shiftLeft, ← setC_eq_carryIn, BitVec.getLsbD_ushiftRight]

theorem shiftRight_eq (m : Byte) (c : Cpu) : shiftRight m c = (m >>> 1, carryIn m c) := by
  rw [shiftRight, setC_eq_carryIn]

theorem rotateLeft_eq (m : Byte) (c : Cpu) :
    rotateLeft m c = ((m <<< 1) ||| (c.p &&& 1), carryIn (m >>> 7) c) := by
  rw [rotateLeft, ← setC_eq_carryIn, BitVec.getLsbD_ushiftRight, Cpu.flagC, (flagByte_bit0 c.p).1]

theorem rotateRight_eq (m : Byte) (c : Cpu) :
    rotateRight m c = ((m >>> 1) ||| ((c.p &&& 1) <<< 7), carryIn m c) := by
  rw [rotateRight, setC_eq_carryIn, Cpu.flagC, (flagByte_bit0 c.p).2]

/-- An instruction that does no more than store a byte of the CPU (R513 to R515, R811). -/
def isStore : Instr → Bool
  | .sta _ | .stx _ | .sty _ | .sax _ => true
  | _ => false

/-- A storing instruction is a store or a read-modify-write, with the byte it writes and the CPU it writes
with (R405, R423). -/
theorem storing_meaning {i : Instr} (hw : writesMemory i = true) :
    (isStore i = true ∧ ∃ v, meaningOf i = .effect (.stores v) ∧
      ∀ m c, writtenByte i m c = v c ∧ cpuAtWrite i m c = c) ∨
    (isStore i = false ∧ ∃ f g, meaningOf i = .effect (.modifies f g) ∧
      ∀ m c, f m c = (writtenByte i m c, cpuAtWrite i m c)) := by
  cases i with
  | sta f | stx f | sty f | sax f => exact .inl ⟨rfl, _, rfl, fun _ _ => ⟨rfl, rfl⟩⟩
  | inc f | dec f | dcp f | isc f => exact .inr ⟨rfl, _, _, rfl, fun _ _ => rfl⟩
  | asl f | slo f => exact .inr ⟨rfl, _, _, rfl, shiftLeft_eq⟩
  | lsr f | sre f => exact .inr ⟨rfl, _, _, rfl, shiftRight_eq⟩
  | rol f | rla f => exact .inr ⟨rfl, _, _, rfl, rotateLeft_eq⟩
  | ror f | rra f => exact .inr ⟨rfl, _, _, rfl, rotateRight_eq⟩
  | _ => cases hw

theorem storeState_store {i : Instr} (h : isStore i = true) (s : State) : storeState i s = preOf i s := by
  cases i with
  | sta f | stx f | sty f | sax f => rfl
  | _ => cases h

/-- A read-modify-write lands after its read. -/
theorem storeState_modify {i : Instr} {a : Word} {s : State} (h : isStore i = false)
    (ha : (recOf i s).operand = .address a) : storeState i s = (memRead a (preOf i s)).2 := by
  unfold storeState
  split
  · cases h
  · cases h
  · cases h
  · cases h
  · next b hb => rw [ha] at hb; cases hb; rfl
  · next hne => exact absurd ha (hne a)

theorem storeState_memories (i : Instr) (s : State) : (storeState i s).memories = s.memories := by
  unfold storeState
  split
  · exact preOf_memories _ s
  · exact preOf_memories _ s
  · exact preOf_memories _ s
  · exact preOf_memories _ s
  · exact (memRead_memories _ _).trans (preOf_memories _ s)
  · exact preOf_memories _ s

/-- Everything a storing instruction can do to the memories: a write at its address, in the state in which
its write lands, or, on A, nothing. -/
theorem exec_store_memories {i : Instr} {s t : State} (hw : writesMemory i = true)
    (h : exec i s = .next t) :
    (∃ a v c u, (recOf i s).operand = .address a ∧
      memWrite a v { storeState i s with cpu := c } = .ok u ∧ t.memories = u.memories) ∨
    (recOf i s).operand = .accumulator ∧ t.memories = s.memories := by
  rcases storing_meaning hw with ⟨hstore, v, hm, -⟩ | ⟨hmod, f, g, hm, -⟩ <;>
    obtain ⟨u, hu, ht⟩ := memories_of_effect hm h
  · obtain ⟨a, ho, ha⟩ := store_cases _ _ _ _ hu
    rw [← storeState_store hstore] at ha
    exact .inl ⟨a, _, _, u, ho, ha, ht⟩
  · simp only [Effect.run, rmwEffect] at hu
    split at hu <;> cases hu
    next r w hr =>
    rcases rmw_cases f _ _ _ _ hr with ⟨ho, -, rfl⟩ | ⟨a, ho, -, ha⟩
    · exact .inr ⟨ho, ht.trans (preOf_memories i s)⟩
    · rw [← storeState_modify hmod ho] at ha
      exact .inl ⟨a, _, _, w, ho, ha, ht⟩

/-- An instruction that completes keeps the canonical form, whatever its record (R404). -/
theorem exec_memWf {i : Instr} {s t : State} (hs : s.memWf = true) (h : exec i s = .next t) :
    t.memWf = true := by
  by_cases hw : writesMemory i = true
  · rcases exec_store_memories hw h with ⟨a, v, c, u, -, hu, ht⟩ | ⟨-, ht⟩
    · have hstate : State.memWf { storeState i s with cpu := c } = true :=
        memWf_of_memories (storeState_memories i s) hs
      exact memWf_of_memories ht (memWrite_memWf hstate hu)
    · exact memWf_of_memories ht hs
  · by_cases hp : pushes i = true
    · obtain ⟨bs, -, ht⟩ := exec_push_memories hp h
      exact memWf_of_pushed ht hs
    · exact memWf_of_memories (exec_read_memories (by simpa using hw) (by simpa using hp) h) hs

theorem completeSeq_memWf (q : SeqKind) (r : Inflight) {s : State} (hs : s.memWf = true) :
    (completeSeq q r s).memWf = true := by
  have hread : (completeSeq q r s).memories = (seqEffect q r s).2.memories := rfl
  cases q with
  | reset => exact memWf_of_memories (hread.trans (read16_memories resetVector s)) hs
  | nmi | irq => exact memWf_of_pushed (hread.trans (takeInterrupt_memories _ _ _ s)) hs

theorem complete_memWf {r : Inflight} {s t : State} (hs : s.memWf = true) (h : complete r s = .next t) :
    t.memWf = true := by
  unfold complete at h
  split at h
  · exact exec_memWf hs h
  · cases h; exact completeSeq_memWf _ r hs

theorem advanceInflight_memWf {s t : State} (hs : s.memWf = true) (h : advanceInflight s = .next t) :
    t.memWf = true := by
  unfold advanceInflight at h
  cases hr : s.cpu.inflight with
  | none => rw [hr] at h; cases h; exact hs
  | some r =>
    obtain ⟨c, hit, hcounted, -, hc⟩ := counted_eq r s hr
    simp only [hr, hcounted, hc] at h
    split at h
    · exact complete_memWf (s := { s with cpu := c }) hs h
    · cases h; exact hs

theorem fetchOperands_memories (row : OpRow) (pc0 : Word) (s : State) :
    (fetchOperands row pc0 s).2.2.memories = s.memories := by
  unfold fetchOperands
  split
  · exact memRead_memories _ s
  · exact (memRead_memories _ _).trans (memRead_memories _ s)
  · rfl

theorem fetch_memories {s t : State} (h : fetch s = .next t) : t.memories = s.memories := by
  unfold fetch at h
  split at h
  · cases h; rfl
  · simp only [fetchInstr] at h
    split at h <;> cases h
    exact (newRecord_memories _ _).trans
      ((fetchOperands_memories _ _ _).trans (memRead_memories s.cpu.pc s))

theorem cpuStep_memWf {s t : State} (hs : s.memWf = true) (h : cpuStep s = .next t) :
    t.memWf = true := by
  unfold cpuStep at h
  split at h
  · cases h; exact hs
  · split at h
    · cases h; exact hs
    · split at h
      · exact advanceInflight_memWf hs h
      · split at h
        · next u hu => exact advanceInflight_memWf (memWf_of_memories (fetch_memories hu) hs) h
        · cases h
        · cases h

theorem cycle_memWf {s t : State} (hs : s.memWf = true) (h : cycle s = .next t) : t.memWf = true := by
  unfold cycle at h
  split at h
  · cases h
  · cases h
  · split at h
    · next u hu =>
      rw [← Host.Outcome.next.inj h]
      exact afterCpu_memWf u (cpuStep_memWf hs hu)
    · cases h
    · cases h

theorem runToBoundary_memWf {n : Nat} {s t : State} (hs : s.memWf = true)
    (h : runToBoundary n s = .next t) : t.memWf = true := by
  induction n generalizing s with
  | zero => cases h; exact hs
  | succ n ih =>
    unfold runToBoundary at h
    split at h
    · next u hu =>
      have hwf := cycle_memWf hs hu
      split at h
      · cases h; exact hwf
      · exact ih hwf h
    · cases h
    · cases h

/-- Settles O58: every cycle of the step keeps the form. -/
theorem memoriesStayCanonical : Obligations.MemoriesStayCanonical :=
  fun _ _ hs h => runToBoundary_memWf hs h

end Sys2Proof.Machine

/-! ## What a read of the CPU bus leaves, and OAM DMA (R210, R250) -/

namespace Sys2Proof.Machine

/-! ### What a read of the CPU bus leaves (R210) -/

/-- A read of a memory or of cartridge space changes nothing, and does not depend on the PPU. -/
theorem memRead_ppu_independent {a : Word} (s : State) (h : a.toNat < 0x2000 ∨ 0x6000 ≤ a.toNat) (p : Ppu) :
    memRead a { s with ppu := p } = ((memRead a s).1, { s with ppu := p }) := by
  rcases h with h | h
  · rw [mem_read_ram a _ h, mem_read_ram a s h]
  · rw [mem_read_cart a _ h, mem_read_cart a s h]

theorem memRead_state {a : Word} (s : State) (h : a.toNat < 0x2000 ∨ 0x6000 ≤ a.toNat) :
    (memRead a s).2 = s :=
  congrArg Prod.snd (memRead_ppu_independent s h s.ppu)

/-- A read above the PPU registers leaves the CPU and the PPU. -/
theorem memRead_io_frame {a : Word} (s : State) (h : 0x4000 ≤ a.toNat) :
    (memRead a s).2.cpu = s.cpu ∧ (memRead a s).2.ppu = s.ppu := by
  have hports : a.toNat ≤ 0x4013 ∨ a = 0x4014 ∨ a = 0x4015 ∨ a = 0x4016 ∨ a = 0x4017 ∨
      (0x4018 ≤ a.toNat ∧ a.toNat < 0x6000) ∨ 0x6000 ≤ a.toNat := by bv_omega
  rcases hports with h' | rfl | rfl | rfl | rfl | ⟨h1, h2⟩ | h'
  · rw [mem_read_apu a s h h']; exact ⟨rfl, rfl⟩
  · exact ⟨rfl, rfl⟩
  · exact ⟨rfl, rfl⟩
  · obtain ⟨shift, count, h⟩ := controllerRead1_state s
    exact ⟨(congrArg State.cpu h :), (congrArg State.ppu h :)⟩
  · obtain ⟨shift, count, h⟩ := controllerRead2_state s
    exact ⟨(congrArg State.cpu h :), (congrArg State.ppu h :)⟩
  · rw [mem_read_unmapped a s h1 h2]; exact ⟨rfl, rfl⟩
  · rw [memRead_state s (.inr h')]; exact ⟨rfl, rfl⟩

/-- A bus access changes no more of the CPU than the interrupt latches. -/
theorem BusAccess.latches {s t : State} (h : BusAccess s t) :
    ∃ np q, t.cpu = { s.cpu with nmiPending := np, intReq := q } := by
  refine ⟨t.cpu.nmiPending, t.cpu.intReq, ?_⟩
  have hc : t.cpu = { t.cpu.still with nmiPending := t.cpu.nmiPending, intReq := t.cpu.intReq } := rfl
  rw [hc, h.cpu]
  rfl

/-- What a bus access leaves of the machine beside the devices' registers and memories. -/
theorem BusAccess.frame {s t : State} (h : BusAccess s t) :
    t.t = s.t ∧ t.frames = s.frames ∧ t.host = s.host ∧ t.fault = s.fault ∧ t.refused = s.refused ∧
    t.ppu.line = s.ppu.line ∧ t.ppu.dot = s.ppu.dot ∧ t.ppu.frame = s.ppu.frame := by
  have hf := h.fixed
  simp only [State.fixed, Ppu.fixed, State.mk.injEq, Ppu.mk.injEq] at hf
  simp only [hf, and_self]

/-- Settles O25: a read is a bus access that keeps every memory. -/
theorem readFrame : Obligations.ReadFrame := by
  intro a s
  have haccess := memRead_access a s
  refine ⟨sameMemory_of_memories (memRead_memories a s), haccess.latches, ?_, memRead_state s,
    haccess.frame⟩
  rintro (h | h)
  · rw [memRead_state s (.inl h)]; exact ⟨rfl, rfl⟩
  · exact memRead_io_frame s h

/-! ### OAM DMA (R250) -/

theorem memRead_oamaddr (a : Word) (s : State) : (memRead a s).2.ppu.oamaddr = s.ppu.oamaddr := by
  by_cases h : 0x4000 ≤ a.toNat
  · rw [(memRead_io_frame s h).2]
  · by_cases h' : a.toNat < 0x2000
    · rw [memRead_state s (.inl h')]
    · rw [mem_read_ppu a s (by omega) (by omega)]
      unfold ppuRegRead
      split
      · rfl
      · rfl
      · simp only [latchPpu, dataRead, ppuRead]
        split_ifs <;> rfl
      · rfl

theorem oamDmaFrom_oamaddr (d : Byte) (n : Nat) (s : State) :
    (oamDmaFrom d n s).ppu.oamaddr = s.ppu.oamaddr + BitVec.ofNat 8 n := by
  induction n generalizing s with
  | zero => simp [oamDmaFrom]
  | succ n ih =>
    have hbyte : ∀ a, (oamDmaByte a s).ppu.oamaddr = s.ppu.oamaddr + 1 := fun a =>
      congrArg (· + 1) (memRead_oamaddr a s)
    rw [oamDmaFrom, ih, hbyte, BitVec.ofNat_add, BitVec.add_assoc, BitVec.add_comm 1]
    rfl

/-- The byte `n` of page `d` (R250). -/
def pageByte (d : Byte) (s : State) (n : Nat) : Byte := (memRead (word16 (BitVec.ofNat 8 n) d) s).1

theorem page_address {d : Byte} (h : d.toNat < 0x20 ∨ 0x60 ≤ d.toNat) (n : Nat) :
    (word16 (BitVec.ofNat 8 n) d).toNat < 0x2000 ∨ 0x6000 ≤ (word16 (BitVec.ofNat 8 n) d).toNat := by
  have := (BitVec.ofNat 8 n).isLt
  rw [word16_to_nat]
  omega

theorem oamDmaByte_page {d : Byte} (h : d.toNat < 0x20 ∨ 0x60 ≤ d.toNat) (n : Nat) (s : State) (p : Ppu) :
    oamDmaByte (word16 (BitVec.ofNat 8 n) d) { s with ppu := p } =
      { s with ppu := writeOamData (pageByte d s n) p } := by
  rw [oamDmaByte, memRead_ppu_independent s (page_address h n)]
  rfl

/-- The last `n` bytes of the page go to the next `n` OAM bytes from OAMADDR on and round. -/
theorem oamDmaFrom_page {d : Byte} (h : d.toNat < 0x20 ∨ 0x60 ≤ d.toNat) (s : State) (n : Nat)
    (hn : n ≤ 256) (p : Ppu) : ∃ oam,
      oamDmaFrom d n { s with ppu := p } =
        { s with ppu := { p with oam := oam, oamaddr := p.oamaddr + BitVec.ofNat 8 n } } ∧
      ∀ k < 256, oam.read ((p.oamaddr.toNat + k) % 256) =
        if k < n then pageByte d s (256 - n + k) else p.oam.read ((p.oamaddr.toNat + k) % 256) := by
  induction n generalizing p with
  | zero => exact ⟨p.oam, by simp [oamDmaFrom], by simp⟩
  | succ n ih =>
    obtain ⟨oam, hrest, hread⟩ := ih (by omega) (writeOamData (pageByte d s (255 - n)) p)
    refine ⟨oam, ?_, fun k hk => ?_⟩
    · rw [oamDmaFrom, oamDmaByte_page h, hrest]
      have haddr : p.oamaddr + 1 + BitVec.ofNat 8 n = p.oamaddr + BitVec.ofNat 8 (n + 1) := by
        rw [BitVec.ofNat_add, BitVec.add_assoc, BitVec.add_comm 1]; rfl
      simp only [writeOamData, haddr]
    · have hlt := p.oamaddr.isLt
      have hnext : (writeOamData (pageByte d s (255 - n)) p).oamaddr.toNat =
          (p.oamaddr.toNat + 1) % 256 := BitVec.toNat_add _ _
      rw [hnext] at hread
      cases k with
      | zero =>
        have hindex : ((p.oamaddr.toNat + 1) % 256 + 255) % 256 = p.oamaddr.toNat := by omega
        have hfirst := hread 255 (by omega)
        rw [hindex, if_neg (by omega), writeOamData, mem_read_write_same] at hfirst
        rw [Nat.add_zero, Nat.mod_eq_of_lt hlt, hfirst, if_pos n.succ_pos, Nat.add_zero,
          Nat.sub_add_eq, Nat.sub_right_comm]
      | succ k =>
        have hindex : ((p.oamaddr.toNat + 1) % 256 + k) % 256 = (p.oamaddr.toNat + (k + 1)) % 256 := by
          omega
        have hother : (p.oamaddr.toNat + (k + 1)) % 256 ≠ p.oamaddr.toNat := by omega
        have hlater := hread k (by omega)
        rw [hindex, writeOamData, mem_read_write_other _ _ _ _ hother] at hlater
        have hbyte : 256 - (n + 1) + (k + 1) = 256 - n + k := by omega
        simpa only [hbyte, Nat.add_lt_add_iff_right] using hlater

/-- Settles O24: 256 bytes bring OAMADDR round to where it was, and a page that no read changes is copied byte
by byte. -/
theorem oamDmaCopies : Obligations.OamDmaCopies := by
  intro d s
  have hround : s.ppu.oamaddr + BitVec.ofNat 8 256 = s.ppu.oamaddr := BitVec.add_zero _
  refine ⟨(oamDmaFrom_oamaddr d 256 s).trans hround, fun h => ?_⟩
  obtain ⟨oam, hdma, hread⟩ := oamDmaFrom_page h s 256 le_rfl s.ppu
  rw [hround] at hdma
  have hdma : oamDma d s = { s with ppu := { s.ppu with oam := oam } } := hdma
  rw [hdma]
  refine ⟨rfl, fun n hn => ?_⟩
  have haddr : (BitVec.ofNat 16 (256 * d.toNat + n) : Word) = word16 (BitVec.ofNat 8 n) d := by
    apply BitVec.eq_of_toNat_eq
    have := d.isLt
    rw [word16_to_nat, BitVec.toNat_ofNat, BitVec.toNat_ofNat]
    omega
  simpa [hn, pageByte, haddr] using hread n hn

end Sys2Proof.Machine

/-! ## What a write of the CPU bus stores (R211, R214, R230) -/

namespace Sys2Proof.Machine

/-! ### A write through PPUDATA, by where v points (R230, R1027) -/

/-- A rise of A12 moves no window of the graphics storage (R1456). -/
theorem chrOffset_a12Observe (a : BitVec 14) (s : State) (n : Nat) :
    (a12Observe a s).cart.chrOffset n = s.cart.chrOffset n := by
  have hrise : ∀ m : Mmc3, m.a12Rise.chrUnit n = m.chrUnit n := by
    intro m
    simp only [Mmc3.a12Rise]
    split_ifs <;> rfl
  simp only [a12Observe, a12Mapper]
  split
  · cases hm : s.cart.mapper with
    | mmc3 m => simp only [Cart.chrOffset, hm, Mapper.a12Rise, hrise]; rfl
    | nrom | uxrom _ | axrom _ _ => simp only [Cart.chrOffset, hm, Mapper.a12Rise]
    | mmc1 _ | cnrom _ => simp only [Cart.chrOffset, hm, Mapper.a12Rise]; rfl
  · rfl

theorem ppuWrite_chrRam {a : BitVec 14} (d : Byte) {s : State} (ha : a.toNat < 0x2000)
    (hc : s.cart.chrLen = 0) : ppuWrite a d s =
      .ok { a12Observe a s with cart := { (a12Observe a s).cart with
        chrRam := s.cart.chrRam.write (s.cart.chrOffset a.toNat) d } } := by
  have hc' : (a12Observe a s).cart.chrLen = 0 := hc
  rw [ppuWrite, if_pos (by bv_omega)]
  simp only [Cart.chrWrite, hc', if_true, chrOffset_a12Observe]
  rfl

theorem ppuWrite_chrRom {a : BitVec 14} (d : Byte) {s : State} (ha : a.toNat < 0x2000)
    (hc : s.cart.chrLen ≠ 0) : ppuWrite a d s = .error (raise .romWrite (a12Observe a s)) := by
  have hc' : (a12Observe a s).cart.chrLen ≠ 0 := hc
  rw [ppuWrite, if_pos (by bv_omega)]
  simp only [Cart.chrWrite, hc', if_false]

theorem ppuWrite_vram {a : BitVec 14} (d : Byte) (s : State) (ha : 0x2000 ≤ a.toNat)
    (ha' : a.toNat < 0x3F00) : ppuWrite a d s =
      .ok { s with bus := { s.bus with vram := s.bus.vram.write (ntIndex s.cart.mirroring a) d } } := by
  rw [ppuWrite, if_neg (by bv_omega), if_pos (by bv_omega)]

theorem ppuWrite_pal {a : BitVec 14} (d : Byte) (s : State) (ha : 0x3F00 ≤ a.toNat) : ppuWrite a d s =
      .ok { s with ppu := { s.ppu with pal := palWrite s.ppu.pal (palIndex a) (d.setWidth 6) } } := by
  rw [ppuWrite, if_neg (by bv_omega), if_neg (by bv_omega)]

/-- The memories after a write of CPU address `a`, by where the map sends it (R211, R230, R1403, R1406). OAM DMA
may leave any OAM (R250). -/
inductive Written (a : Word) (d : Byte) (s : State) : Memories → Prop
  | ram (h : a.toNat < 0x2000) :
    Written a d s { s.memories with ram := s.bus.ram.write (a.toNat % 2048) d }
  | prgRam (h : 0x6000 ≤ a.toNat) (h' : a.toNat < 0x8000) :
    Written a d s { s.memories with prgRam := s.cart.prgRam.write (a.toNat - 0x6000) d }
  | oam (h : isPpuReg a 4) :
    Written a d s { s.memories with oam := s.ppu.oam.write s.ppu.oamaddr.toNat d }
  | dma (h : a = 0x4014) (oam : Mem) : Written a d s { s.memories with oam := oam }
  | vram (h : isPpuReg a 7) (hv : 0x2000 ≤ (vramAddress s).toNat) (hv' : (vramAddress s).toNat < 0x3F00) :
    Written a d s { s.memories with
      vram := s.bus.vram.write (ntIndex s.cart.mirroring (vramAddress s)) d }
  | pal (h : isPpuReg a 7) (hv : 0x3F00 ≤ (vramAddress s).toNat) :
    Written a d s { s.memories with
      pal := palWrite s.ppu.pal (palIndex (vramAddress s)) (d.setWidth 6) }
  | chrRam (h : isPpuReg a 7) (hv : (vramAddress s).toNat < 0x2000) (hc : s.cart.chrLen = 0) :
    Written a d s { s.memories with
      chrRam := s.cart.chrRam.write (s.cart.chrOffset (vramAddress s).toNat) d }
  | none (hram : 0x2000 ≤ a.toNat) (hprg : a.toNat < 0x6000 ∨ 0x8000 ≤ a.toNat)
      (hreg : a.toNat < 0x4000 → a.toNat % 8 ≠ 4 ∧ a.toNat % 8 ≠ 7) (hdma : a ≠ 0x4014) :
    Written a d s s.memories

/-- Only the write's own byte changes, and it reads back: in each case the predicate of the memory written holds
of the index written alone, and the others fail at the address or at v. -/
theorem Written.frame {a : Word} {d : Byte} {s t : State} (h : Written a d s t.memories) :
    OnlyStoredAt a s t ∧
    (∀ n, storesRam a n → t.bus.ram.read n = d) ∧
    (∀ n, storesPrgRam a n → t.cart.prgRam.read n = d) ∧
    (∀ n, isPpuReg a 4 → storesOam a s n → t.ppu.oam.read n = d) ∧
    (∀ n, storesVram a s n → t.bus.vram.read n = d) ∧
    (∀ n, storesPal a s n → palRead t.ppu.pal n = d.setWidth 6) ∧
    (∀ n, storesChrRam a s n → t.cart.chrRam.read n = d) := by
  generalize hm : t.memories = m at h
  cases h
  all_goals
    simp only [State.memories, Memories.mk.injEq] at hm
    grind [OnlyStoredAt, storesRam, storesPrgRam, storesOam, storesVram, storesPal, storesChrRam, isPpuReg,
      mem_read_write, pal_read_write]

theorem oamDmaFrom_memories (d : Byte) (n : Nat) (s : State) :
    ∃ oam, (oamDmaFrom d n s).memories = { s.memories with oam := oam } := by
  induction n generalizing s with
  | zero => exact ⟨_, rfl⟩
  | succ n ih =>
    generalize ha : word16 (BitVec.ofNat 8 (255 - n)) d = a
    obtain ⟨oam, hrest⟩ := ih (oamDmaByte a s)
    have hbyte : ∀ m, { (oamDmaByte a s).memories with oam := m } =
        { (memRead a s).2.memories with oam := m } := fun _ => rfl
    exact ⟨oam, by rw [oamDmaFrom, ha, hrest, hbyte, memRead_memories]⟩

/-- A PPU-bus write at v, after the latch took the byte. -/
theorem ppuWrite_written {a : Word} {d : Byte} {s t : State} (ha : isPpuReg a 7)
    (h : ppuWrite (vramAddress s) d (setPpuLatch d s) = .ok t) : Written a d s t.memories := by
  by_cases hchr : (vramAddress s).toNat < 0x2000
  · by_cases hc : s.cart.chrLen = 0
    · rw [ppuWrite_chrRam (s := setPpuLatch d s) d hchr hc] at h
      cases h
      exact .chrRam ha hchr hc
    · rw [ppuWrite_chrRom (s := setPpuLatch d s) d hchr hc] at h
      cases h
  · by_cases hpal : (vramAddress s).toNat < 0x3F00
    · rw [ppuWrite_vram d _ (by omega) hpal] at h
      cases h
      exact .vram ha (by omega) hpal
    · rw [ppuWrite_pal d _ (by omega)] at h
      cases h
      exact .pal ha (by omega)

theorem memWrite_ppu_written {a : Word} {d : Byte} {s t : State} (ha : 0x2000 ≤ a.toNat)
    (ha' : a.toNat < 0x4000) (h : memWrite a d s = .ok t) : Written a d s t.memories := by
  rw [mem_write_ppu a d s ha ha'] at h
  by_cases h4 : a.toNat % 8 = 4
  · rw [h4] at h
    cases h
    exact .oam ⟨ha, ha', h4⟩
  · by_cases h7 : a.toNat % 8 = 7
    · rw [h7] at h
      obtain ⟨u, hu, rfl⟩ := writeVramData_cases h
      exact ppuWrite_written (t := u) ⟨ha, ha', h7⟩ hu
    · obtain ⟨u, hu, hm, -⟩ := ppuRegWrite_other d (setPpuLatch d s) (by omega) h4 h7
      obtain rfl := Except.ok.inj (hu.symm.trans h)
      exact hm ▸ .none ha (by omega) (fun _ => ⟨h4, h7⟩) (by bv_omega)

theorem memWrite_cart_written {a : Word} {d : Byte} {s t : State} (ha : 0x6000 ≤ a.toNat)
    (h : memWrite a d s = .ok t) : Written a d s t.memories := by
  by_cases ha' : a.toNat < 0x8000
  · rw [mem_write_prgRam a d s ha ha'] at h
    cases h
    exact .prgRam ha ha'
  · rw [mem_write_cart a d s ha, cartWrite, Cart.cpuWrite, if_neg ha'] at h
    have hm : t.memories = s.memories := by
      cases hw : s.cart.mapper.write a.toNat d <;> rw [hw] at h <;> cases h
      rfl
    exact hm ▸ .none (by omega) (by omega) (by omega) (by bv_omega)

/-- Every write that completes is of one of those kinds. -/
theorem memWrite_written {a : Word} {d : Byte} {s t : State} (h : memWrite a d s = .ok t) :
    Written a d s t.memories := by
  rcases address_region a with ha | ⟨ha, ha'⟩ | rfl | rfl | ⟨ha, ha', hdma, hport⟩ | ⟨ha, ha'⟩ | ha
  · rw [mem_write_ram a d s ha] at h
    cases h
    exact .ram ha
  · exact memWrite_ppu_written ha ha' h
  · obtain ⟨oam, hoam⟩ := oamDmaFrom_memories d 256 (setPpuLatch d s)
    rw [← Except.ok.inj ((mem_write_dma d s).symm.trans h)]
    exact hoam ▸ .dma rfl oam
  · cases h
    exact controllerWrite_memories d s ▸ .none (by decide) (by decide) (by decide) (by decide)
  · rw [mem_write_apu a d s ha ha' hdma hport] at h
    rw [← Except.ok.inj h, apuWrite_memories]
    exact .none (by omega) (by omega) (by omega) hdma
  · rw [mem_write_unmapped a d s ha ha'] at h
    cases h
    exact .none (by omega) (by omega) (by omega) (by bv_omega)
  · exact memWrite_cart_written ha h

/-- Settles O26: the memories by `Written`, the rest because a write is a bus access. -/
theorem writeFrame : Obligations.WriteFrame := by
  intro a d s t h
  obtain ⟨hkept, hram, hprgRam, hoam, hvram, hpal, hchrRam⟩ := (memWrite_written h).frame
  have haccess := memWrite_outcome a d s
  rw [h] at haccess
  exact ⟨hkept, hram, hprgRam, hoam, hvram, hpal, hchrRam, haccess.latches, haccess.frame⟩

/-! ### The open-bus latches (R212) -/

theorem ppuWrite_ppuLatch {a : BitVec 14} {d : Byte} {s t : State} (h : ppuWrite a d s = .ok t) :
    t.bus.ppuLatch = s.bus.ppuLatch := by
  unfold ppuWrite at h
  split at h
  · dsimp only at h
    split at h <;> cases h
    rfl
  · split at h <;> cases h <;> rfl

theorem ppuRegWrite_ppuLatch {r : Nat} {d : Byte} {s t : State} (hr : r < 8)
    (h : ppuRegWrite r d s = .ok t) : t.bus.ppuLatch = s.bus.ppuLatch := by
  by_cases h4 : r = 4
  · subst h4
    cases h
    rfl
  · by_cases h7 : r = 7
    · subst h7
      obtain ⟨u, hu, rfl⟩ := writeVramData_cases h
      exact ppuWrite_ppuLatch (t := u) hu
    · obtain ⟨u, hu, -, hbus⟩ := ppuRegWrite_other d s hr h4 h7
      obtain rfl := Except.ok.inj (hu.symm.trans h)
      rw [hbus]

theorem ppuRegRead_readable {r : Nat} (s : State) (hr : r ∈ [2, 4, 7]) :
    (ppuRegRead r s).2.bus.ppuLatch = (ppuRegRead r s).1 := by
  simp only [List.mem_cons, List.not_mem_nil, or_false] at hr
  rcases hr with rfl | rfl | rfl <;> rfl

theorem ppuRegRead_writeOnly {r : Nat} (s : State) (hr : r ∈ [0, 1, 3, 5, 6]) :
    ppuRegRead r s = (s.bus.ppuLatch, s) := by
  simp only [List.mem_cons, List.not_mem_nil, or_false] at hr
  rcases hr with rfl | rfl | rfl | rfl | rfl <;> rfl

/-- Settles O22: the latch of each region, through the router. -/
theorem openBusLatches : Obligations.OpenBusLatches := by
  intro a d s t
  refine ⟨fun h h' ht => ?ppuWrite, mem_write_dma d s, fun h h' hr => ?readable, ?writeOnly,
    fun h h' hdma hport ht => ?apuWrite, rfl, mem_read_apu a s, ?ports⟩
  case ppuWrite =>
    rw [mem_write_ppu a d s h h'] at ht
    exact ppuRegWrite_ppuLatch (Nat.mod_lt _ (by decide)) ht
  case readable =>
    rw [mem_read_ppu a s h h']
    exact ppuRegRead_readable s hr
  case writeOnly =>
    rintro (⟨h, h', hr⟩ | rfl)
    · rw [mem_read_ppu a s h h', ppuRegRead_writeOnly s hr]
    · rfl
  case apuWrite =>
    rw [mem_write_apu a d s h h' hdma hport] at ht
    rw [← Except.ok.inj ht, setApuLatch_bus]
  case ports =>
    rintro (rfl | rfl)
    · obtain ⟨shift, count, h⟩ := controllerRead1_state s
      exact ⟨congrArg (·.bus.ppuLatch) h, congrArg (·.bus.apuLatch) h⟩
    · obtain ⟨shift, count, h⟩ := controllerRead2_state s
      exact ⟨congrArg (·.bus.ppuLatch) h, congrArg (·.bus.apuLatch) h⟩

/-! ### Writes that reach read-only storage (R214) -/

theorem romFaultState_mapper {a : Word} (d : Byte) (s : State) (h : 0x8000 ≤ a.toNat) :
    romFaultState a d s = { s with fault := some .romWrite } := if_pos h

theorem romFaultState_ppuData {a : Word} (d : Byte) (s : State) (h : a.toNat < 0x8000) :
    romFaultState a d s = { a12Observe (vramAddress s) (setPpuLatch d s) with fault := some .romWrite } := by
  have hlevel : (vramAddress s).getLsbD 12 = s.ppu.v.getLsbD 12 := by
    simp [vramAddress]
  simp only [romFaultState, if_neg (Nat.not_le.2 h), a12Observe, hlevel]
  rfl

theorem memWrite_ppuData {a : Word} (d : Byte) (s : State) (ha : isPpuReg a 7) :
    memWrite a d s = writeVramData d (setPpuLatch d s) := by
  obtain ⟨hlo, hhi, hr⟩ := ha
  rw [mem_write_ppu a d s hlo hhi, hr]
  rfl

theorem writeVramData_of_ok {d : Byte} {s t : State} (h : ppuWrite (vramAddress s) d s = .ok t) :
    writeVramData d s = .ok { t with ppu := vramIncrement t.ppu } := by
  unfold vramAddress at h
  rw [writeVramData, h]

theorem writeVramData_of_error {d : Byte} {s : State} {f : Fault}
    (h : ppuWrite (vramAddress s) d s = .error f) : writeVramData d s = .error f := by
  unfold vramAddress at h
  rw [writeVramData, h]

theorem ppuWrite_ok {a : BitVec 14} (d : Byte) (s : State) (h : 0x2000 ≤ a.toNat ∨ s.cart.chrLen = 0) :
    ∃ t, ppuWrite a d s = .ok t := by
  by_cases hchr : a.toNat < 0x2000
  · exact ⟨_, ppuWrite_chrRam d hchr (by omega)⟩
  · by_cases hpal : a.toNat < 0x3F00
    · exact ⟨_, ppuWrite_vram d s (by omega) hpal⟩
    · exact ⟨_, ppuWrite_pal d s (by omega)⟩

theorem mapperWrite_ok {m : Mapper} (a : Nat) (d : Byte) (h : m ≠ .nrom) : ∃ m', m.write a d = .ok m' := by
  cases m with
  | nrom => exact absurd rfl h
  | _ => exact ⟨_, rfl⟩

theorem storable_mapper {a : Word} (s : State) (h : 0x8000 ≤ a.toNat) :
    storable a s = decide (s.cart.mapper ≠ .nrom) := if_pos h

theorem storable_ppuData {a : Word} (s : State) (h : isPpuReg a 7) :
    storable a s = (decide (0x2000 ≤ (vramAddress s).toNat) || decide (s.cart.chrLen = 0)) := by
  have hlt : ¬ 0x8000 ≤ a.toNat := by have := h.2.1; omega
  rw [vramAddress, BitVec.toNat_setWidth]
  exact (if_neg hlt).trans (if_pos h)

theorem storable_other {a : Word} (s : State) (h : a.toNat < 0x8000) (h' : ¬ isPpuReg a 7) :
    storable a s = true :=
  (if_neg (Nat.not_le.2 h)).trans (if_neg h')

/-- Everything below program space takes every write, PPUDATA apart. -/
theorem memWrite_other_ok {a : Word} (d : Byte) (s : State) (h : a.toNat < 0x8000) (h' : ¬ isPpuReg a 7) :
    ∃ t, memWrite a d s = .ok t := by
  rcases address_region a with ha | ⟨ha, ha'⟩ | rfl | rfl | ⟨ha, ha', hdma, hport⟩ | ⟨ha, ha'⟩ | ha
  · exact ⟨_, mem_write_ram a d s ha⟩
  · rw [mem_write_ppu a d s ha ha']
    have h7 : a.toNat % 8 ≠ 7 := fun h7 => h' ⟨ha, ha', h7⟩
    by_cases h4 : a.toNat % 8 = 4
    · rw [h4]; exact ⟨_, rfl⟩
    · obtain ⟨t, ht, -, -⟩ := ppuRegWrite_other d (setPpuLatch d s) (by omega) h4 h7
      exact ⟨t, ht⟩
  · exact ⟨_, mem_write_dma d s⟩
  · exact ⟨_, rfl⟩
  · exact ⟨_, mem_write_apu a d s ha ha' hdma hport⟩
  · exact ⟨_, mem_write_unmapped a d s ha ha'⟩
  · exact ⟨_, mem_write_prgRam a d s ha h⟩

/-- Whether a write faults, and in which state (R214, R1501). -/
def FaultsUnlessStorable (a : Word) (d : Byte) (s : State) : Prop :=
  (storable a s = true → ∃ t, memWrite a d s = .ok t) ∧
    (storable a s = false → memWrite a d s = .error (.romWrite (romFaultState a d s)))

/-- A mapper write, before which nothing has changed (R1402, R1410). -/
theorem memWrite_mapper_storable {a : Word} (d : Byte) (s : State) (ha : 0x8000 ≤ a.toNat) :
    FaultsUnlessStorable a d s := by
  unfold FaultsUnlessStorable
  rw [storable_mapper s ha, mem_write_cart a d s (by omega), cartWrite, Cart.cpuWrite,
    if_neg (Nat.not_lt.2 ha)]
  refine ⟨fun h => ?_, fun h => ?_⟩
  · obtain ⟨m, hm⟩ := mapperWrite_ok a.toNat d (of_decide_eq_true h)
    rw [hm]
    exact ⟨_, rfl⟩
  · have hm : s.cart.mapper = .nrom := by simpa using h
    rw [romFaultState_mapper d s ha, hm]
    rfl

/-- A PPUDATA write, before which the latch took the byte and the observer saw the address (R1027, R1096). -/
theorem memWrite_ppuData_storable {a : Word} (d : Byte) (s : State) (ha : isPpuReg a 7) :
    FaultsUnlessStorable a d s := by
  unfold FaultsUnlessStorable
  rw [storable_ppuData s ha, memWrite_ppuData d s ha]
  refine ⟨fun h => ?_, fun h => ?_⟩
  · obtain ⟨t, ht⟩ := ppuWrite_ok (a := vramAddress s) d (setPpuLatch d s) (by simpa using h)
    exact ⟨_, writeVramData_of_ok ht⟩
  · simp only [Bool.or_eq_false_iff, decide_eq_false_iff_not, Nat.not_le] at h
    have hlt : a.toNat < 0x8000 := lt_trans ha.2.1 (by decide)
    rw [romFaultState_ppuData d s hlt]
    exact writeVramData_of_error (ppuWrite_chrRom d h.1 h.2)

theorem memWrite_storable (a : Word) (d : Byte) (s : State) : FaultsUnlessStorable a d s := by
  by_cases hprg : 0x8000 ≤ a.toNat
  · exact memWrite_mapper_storable d s hprg
  · by_cases hdata : isPpuReg a 7
    · exact memWrite_ppuData_storable d s hdata
    · have hlt : a.toNat < 0x8000 := by omega
      refine ⟨fun _ => memWrite_other_ok d s hlt hdata, fun h => ?_⟩
      rw [storable_other s hlt hdata] at h
      cases h

/-- A storing instruction whose write faults ends in that fault. -/
theorem exec_store_fault {i : Instr} {s : State} {a : Word} {f : Fault} (hw : writesMemory i = true)
    (ha : (recOf i s).operand = .address a)
    (hf : memWrite a (writtenByte i (memRead a (preOf i s)).1 (storeState i s).cpu)
      { storeState i s with
        cpu := cpuAtWrite i (memRead a (preOf i s)).1 (storeState i s).cpu } = .error f) :
    exec i s = .fault f := by
  rw [exec_eq_run]
  rcases storing_meaning hw with ⟨hstore, v, hm, hv⟩ | ⟨hmod, g, k, hm, hg⟩ <;> rw [hm, Meaning.run]
  · refine run_instr_error i _ s f ?_
    rw [storeState_store hstore, (hv _ _).1, (hv _ _).2] at hf
    simpa only [Effect.run, storeEffect, ha, store] using hf
  · refine run_instr_error i _ s f ?_
    rw [storeState_modify hmod ha] at hf
    simp only [Effect.run, rmwEffect, ha, rmw, hg, hf]

/-- Settles O23: the bus faults by the region of the address, and a storing instruction ends as its write
does. -/
theorem romWriteFaults : Obligations.RomWriteFaults := by
  refine ⟨memWrite_storable, fun i s hw _ _ hrom => ?_⟩
  unfold writeAllowed at hrom
  split at hrom
  · next a ha => exact ⟨a, ha, exec_store_fault hw ha ((memWrite_storable a _ _).2 hrom)⟩
  · cases hrom

end Sys2Proof.Machine

/-! ## What an instruction leaves of the memories (R404, R405, R530) -/

namespace Sys2Proof.Machine

/-! ### What an instruction leaves of the memories -/

/-- Only the pushed bytes of console RAM change. -/
theorem pushedMemories_frame {s t : State} {bs : List Byte} (h : t.memories = s.pushedMemories bs) :
    (∀ n, (∀ k < bs.length, n ≠ stackIndex (s.cpu.s - BitVec.ofNat 8 k)) →
      t.bus.ram.read n = s.bus.ram.read n) ∧
    SameMemory { s with bus := { s.bus with ram := t.bus.ram } } t := by
  have hram : t.bus.ram = pushedRam s.cpu.s bs s.bus.ram := congrArg Memories.ram h
  refine ⟨fun n hn => by rw [hram, pushedRam_read_other hn], sameMemory_of_memories ?_⟩
  rw [h, hram]
  rfl

/-- Which instructions push at S, S-1 and S-2. -/
theorem lt_pushCount {i : Instr} {k : Nat} (hk : k < pushCount i) :
    k = 0 ∨ (k = 1 ∧ ((∃ a, i = .jsr a) ∨ i = .brk)) ∨ (k = 2 ∧ i = .brk) := by
  unfold pushCount at hk
  split at hk
  · simp; omega
  · simp; omega
  · exact .inl (by omega)

/-- Settles O44: an instruction reads, pushes or stores, and each does to the memories what its own lemma
says. -/
theorem instructionMemoryFrame : Obligations.InstructionMemoryFrame := by
  intro i s t _ _ h
  refine ⟨fun hw hp => sameMemory_of_memories (exec_read_memories hw hp h), fun hp => ?_, fun hw => ?_⟩
  · obtain ⟨bs, hlen, ht⟩ := exec_push_memories hp h
    obtain ⟨hread, hsame⟩ := pushedMemories_frame ht
    refine ⟨fun n h0 h1 h2 => hread n fun k hk => ?_, hsame⟩
    rw [hlen] at hk
    rcases lt_pushCount hk with rfl | ⟨rfl, hi⟩ | ⟨rfl, hi⟩
    · simpa [stackIndex] using h0
    · exact h1 hi
    · exact h2 hi
  · refine ⟨sameMemory_of_memories (storeState_memories i s), fun a ha => ?_, fun ha => ?_⟩ <;>
      rcases exec_store_memories hw h with ⟨b, v, c, u, hb, hu, ht⟩ | ⟨hacc, ht⟩
    · obtain rfl : b = a := by rw [ha] at hb; cases hb; rfl
      have hm := memWrite_written hu
      rw [← ht] at hm
      exact hm.frame.1
    · rw [ha] at hacc; cases hacc
    · exact absurd hb (ha b)
    · exact sameMemory_of_memories ht

end Sys2Proof.Machine

/-! ## Encoding: the decoder and the encoder undo each other (R300, R301, R321, R331, R402) -/

namespace Sys2Proof

open Machine

/-! ### A form as its mode and its operand bytes (R300, R310) -/

/-- The form of a mode whose operand bytes are `lo` and `hi`, as far as the mode takes any. -/
def Mode.form (lo hi : Byte) : Mode → Form
  | .imp => .imp
  | .acc => .acc
  | .imm => .imm lo
  | .zp => .zp lo
  | .zpx => .zpx lo
  | .zpy => .zpy lo
  | .abs => .abs (word16 lo hi)
  | .abx => .abx (word16 lo hi)
  | .aby => .aby (word16 lo hi)
  | .ind => .ind (word16 lo hi)
  | .izx => .izx lo
  | .izy => .izy lo
  | .rel => .rel lo

/-- Every form is its mode's, with operand bytes of its own. -/
theorem exists_mode_form (f : Form) : ∃ (m : Mode) (lo hi : Byte), f = m.form lo hi :=
  ⟨f.mode, f.bytes.getD 0 0, f.bytes.getD 1 0, by cases f <;> simp [Mode.form, Form.mode, Form.bytes]⟩

/-- The operand bytes of a form follow the opcode, as many as the mode takes. -/
theorem cons_form_bytes (m : Mode) (op lo hi : Byte) :
    op :: (m.form lo hi).bytes = [op, lo, hi].take m.length := by
  cases m <;> simp [Mode.form, Form.bytes, Mode.length]

/-- The bytes past a mode's length are not in its form. -/
theorem mode_form_of_length (m : Mode) (lo hi : Byte) :
    m.form lo hi = m.form (if 1 < m.length then lo else 0) (if 2 < m.length then hi else 0) := by
  cases m <;> rfl

theorem mode_form_mode (m : Mode) (lo hi : Byte) : (m.form lo hi).mode = m := by
  cases m <;> rfl

theorem mode_length_cases (m : Mode) : m.length = 1 ∨ m.length = 2 ∨ m.length = 3 := by
  cases m <;> simp [Mode.length]

/-! ### The decoder's rows (R321, R402) -/

/-- Two functions that agree on the rows the table lists, and on the fallback row, agree on every row. -/
theorem opRow_congr {α : Type} {f g : OpRow → α} (htable : opTable.map (·.map f) = opTable.map (·.map g))
    (hfallback : f ⟨fun _ _ => .nop, .imp, 2, false, .official⟩ =
      g ⟨fun _ _ => .nop, .imp, 2, false, .official⟩) (op : Byte) : f (opRow op) = g (opRow op) := by
  classical
  have hrows : opTable.all (fun row => row.all fun r => decide (f r = g r)) = true := by
    simpa only [List.map_inj_left, List.all_eq_true, decide_eq_true_eq] using htable
  exact of_decide_eq_true (opRow_all hrows (decide_eq_true hfallback) op)

/-- What an opcode decodes to has the mode of its row, with the operand bytes in their places. -/
theorem decodeInstr_form (op b1 b2 : Byte) :
    (decodeInstr op b1 b2).form = (opRow op).mode.form b1 b2 :=
  opRow_congr (f := fun r => (r.make b1 b2).form) (g := fun r => r.mode.form b1 b2) rfl rfl op

/-- The opcode byte decoded is the opcode of the instruction: the rules' opcode lists agree with the table. -/
theorem decodeInstr_opcode? (op b1 b2 : Byte) : (decodeInstr op b1 b2).opcode? = some op :=
  calc (decodeInstr op b1 b2).opcode?
    _ = (decodeInstr op 0 0).opcode? :=
        eq_of_beq (opRow_all (p := fun r => (r.make b1 b2).opcode? == (r.make 0 0).opcode?) rfl rfl op)
    _ = some op := by revert op; decide +kernel

theorem encode_decodeInstr (op b1 b2 : Byte) :
    encode (decodeInstr op b1 b2) = [op, b1, b2].take (opRow op).length := by
  rw [encode, decodeInstr_opcode?, decodeInstr_form]
  exact cons_form_bytes _ op b1 b2

/-! ### Every well-formed instruction has a row (R321) -/

/-- The rows of the unofficial NOPs (R820). -/
theorem decodeInstr_nopAlt {op : Byte} {m : Mode} (h : op ∈ nopOpcodes m) (lo hi : Byte) :
    decodeInstr op lo hi = .nopAlt op (m.form lo hi) := by
  cases m <;> fin_cases h <;> rfl

/-- The rows of ANC (R830). -/
theorem decodeInstr_anc {op : Byte} (h : op ∈ [(0x0B : Byte), 0x2B]) (lo hi : Byte) :
    decodeInstr op lo hi = .anc op lo := by
  fin_cases h <;> rfl

/-- The rows of JAM (R860). -/
theorem decodeInstr_jam {op : Byte} (h : op ∈ jamOpcodes) (lo hi : Byte) :
    decodeInstr op lo hi = .jam op := by
  fin_cases h <;> rfl

/-- The row of a well-formed instruction's opcode makes the instruction from its operand bytes. -/
theorem decodeInstr_of_form {i : Instr} (h : i.wellFormed = true) {m : Mode} {lo hi : Byte}
    (hf : i.form = m.form lo hi) : ∃ op, i.opcode? = some op ∧ decodeInstr op lo hi = i := by
  cases i with
  | nopAlt op f =>
    obtain rfl : f = m.form lo hi := hf
    have hop : op ∈ nopOpcodes (m.form lo hi).mode := List.contains_iff_mem.1 h
    rw [mode_form_mode] at hop
    exact ⟨op, if_pos h, decodeInstr_nopAlt hop lo hi⟩
  | anc op b =>
    cases m <;> cases hf
    exact ⟨op, if_pos h, decodeInstr_anc (List.contains_iff_mem.1 h) lo hi⟩
  | jam op => exact ⟨op, if_pos h, decodeInstr_jam (List.contains_iff_mem.1 h) lo hi⟩
  | _ =>
    -- `hf` settles the operands; `h` leaves the modes the mnemonic has, each one row of the table.
    cases m <;> cases hf <;> cases h <;> exact ⟨_, rfl, rfl⟩

/-- A well-formed instruction is what its opcode decodes to. -/
theorem exists_decodeInstr {i : Instr} (h : i.wellFormed = true) :
    ∃ op b1 b2, decodeInstr op b1 b2 = i := by
  obtain ⟨m, lo, hi, hf⟩ := exists_mode_form i.form
  obtain ⟨op, -, hdec⟩ := decodeInstr_of_form h hf
  exact ⟨op, lo, hi, hdec⟩

/-! ### The decoder on an encoding (R301) -/

/-- The bytes past a row's length do not matter to what it decodes to: they are not in its form. -/
theorem decodeInstr_of_length (op b1 b2 : Byte) :
    decodeInstr op (if 1 < (opRow op).length then b1 else 0) (if 2 < (opRow op).length then b2 else 0) =
      decodeInstr op b1 b2 := by
  obtain ⟨op', hop, h⟩ := decodeInstr_of_form (decodeInstr_wellFormed op b1 b2)
    ((decodeInstr_form op b1 b2).trans (mode_form_of_length _ b1 b2))
  obtain rfl : op = op' := Option.some.inj ((decodeInstr_opcode? op b1 b2).symm.trans hop)
  exact h

/-- The decoder reads the opcode and the row's operand bytes, and leaves what follows them. -/
theorem decode_take_append (op b1 b2 : Byte) (rest : List Byte) :
    decode ([op, b1, b2].take (opRow op).length ++ rest) = .ok (decodeInstr op b1 b2, rest) := by
  rw [← decodeInstr_of_length]
  have hlen : (opRow op).length = 1 ∨ (opRow op).length = 2 ∨ (opRow op).length = 3 :=
    mode_length_cases (opRow op).mode
  rcases hlen with h | h | h <;> simp [decode, h]

/-! ### The statements -/

/-- Settles O6: a well-formed instruction is what some bytes decode to, and its encoding is those bytes up to
the row's length, which the decoder reads back. -/
theorem decodeOfEncode : Obligations.DecodeOfEncode := by
  intro i rest h
  obtain ⟨op, b1, b2, rfl⟩ := exists_decodeInstr h
  rw [encode_decodeInstr, decode_take_append]

/-- Settles O7: the opcode and the form of every row of the table, which give the encoding. -/
theorem encodeOfDecode : Obligations.EncodeOfDecode :=
  fun op b1 b2 => ⟨decodeInstr_wellFormed op b1 b2, encode_decodeInstr op b1 b2⟩

/-- Settles O5: twelve closed words, each decoded. -/
theorem decodedWords : Obligations.DecodedWords := by
  unfold Obligations.DecodedWords
  decide

end Sys2Proof

/-! ## 40_cpu_engine.md: operands (R405, R410 to R419) -/

namespace Sys2Proof.Machine

/-! ### Addresses as numbers -/

theorem zext16_toNat (b : Byte) : (zext16 b).toNat = b.toNat := by
  rw [zext16, BitVec.toNat_setWidth]
  have := b.isLt
  omega

theorem highByte_toNat (w : Word) : (highByte w).toNat = w.toNat / 256 := by
  rw [highByte, BitVec.toNat_setWidth, BitVec.toNat_ushiftRight, Nat.shiftRight_eq_div_pow]
  have := w.isLt
  omega

/-- Two addresses are on different pages when their quotients by 256 differ (R415). -/
theorem pageDiffers_eq (a b : Word) : pageDiffers a b = decide (a.toNat / 256 ≠ b.toNat / 256) := by
  simp only [pageDiffers, ← highByte_toNat, bne, beq_eq_decide, ne_eq, BitVec.toNat_inj, decide_not]

/-- Page zero indexed wraps (R413). -/
theorem zeroPage_index_toNat (z i : Byte) : (zext16 (z + i)).toNat = (z.toNat + i.toNat) % 256 := by
  rw [zext16_toNat, BitVec.toNat_add]

/-- An indexed address wraps to page zero past $FFFF (R415). -/
theorem index_toNat (base : Word) (i : Byte) :
    (base + zext16 i).toNat = (base.toNat + i.toNat) % 65536 := by
  rw [BitVec.toNat_add, zext16_toNat]

theorem indexed_eq (base : Word) (i : Byte) (s : State) :
    indexed base i s = ⟨.address (base + zext16 i),
      decide (base.toNat / 256 ≠ (base + zext16 i).toNat / 256), s⟩ := by
  rw [indexed, pageDiffers_eq]

/-- Settles O8: each mode's operand is its address as a number, and only indexing can cross a page. -/
theorem resolveWithoutPointer : Obligations.ResolveWithoutPointer := by
  intro pc0 s
  refine ⟨rfl, rfl, fun _ => rfl, fun z => ⟨_, zext16_toNat z, rfl⟩,
    fun z => ⟨_, zeroPage_index_toNat z s.cpu.x, rfl⟩, fun z => ⟨_, zeroPage_index_toNat z s.cpu.y, rfl⟩,
    fun _ => rfl, fun a => ⟨_, index_toNat a s.cpu.x, ?_⟩, fun a => ⟨_, index_toNat a s.cpu.y, ?_⟩⟩
  · exact indexed_eq a s.cpu.x s
  · exact indexed_eq a s.cpu.y s

/-! ### Pointers -/

/-- The page of an address, as a mask keeps it. -/
theorem and_ff00 (w : Word) : w &&& 0xFF00 = word16 0 (highByte w) := by
  conv_lhs => rw [← word16_of_bytes w]
  have hmask : (0xFF00 : Word) = word16 0 (BitVec.allOnes 8) := rfl
  rw [hmask, word16, word16, BitVec.and_append, BitVec.and_allOnes]
  simp [word16]

/-- The offset in the page, as a mask keeps it. -/
theorem and_00ff (w : Word) : w &&& 0x00FF = word16 (lowByte w) 0 := by
  conv_lhs => rw [← word16_of_bytes w]
  have hmask : (0x00FF : Word) = word16 (BitVec.allOnes 8) 0 := rfl
  rw [hmask, word16, word16, BitVec.and_append, BitVec.and_allOnes]
  simp [word16]

/-- The high byte of a pointer is read in the page of its low byte (R416). -/
theorem next_in_page (p : Word) :
    (p &&& 0xFF00) ||| ((p + 1) &&& 0x00FF) = word16 (lowByte p + 1) (highByte p) := by
  have hlow : lowByte (p + 1) = lowByte p + 1 := by
    simp [lowByte, BitVec.setWidth_add]
  rw [and_ff00, and_00ff, hlow, word16, word16, BitVec.or_append]
  simp [word16]

theorem zext16_eq_ofNat (b : Byte) : zext16 b = BitVec.ofNat 16 b.toNat := by
  apply BitVec.eq_of_toNat_eq
  have := b.isLt
  rw [zext16_toNat, BitVec.toNat_ofNat]
  omega

theorem low_high_zext16 (b : Byte) : lowByte (zext16 b) = b ∧ highByte (zext16 b) = 0 := by
  revert b; decide

/-- A pointer in page zero has its high byte there too (R417, R418). -/
theorem readPointer_zeroPage (b : Byte) (s : State) :
    let lo := memRead (zext16 b) s
    let hi := memRead (zext16 (b + 1)) lo.2
    readPointer (zext16 b) s = (word16 lo.1 hi.1, hi.2) := by
  have hnext : word16 (lowByte (zext16 b) + 1) (highByte (zext16 b)) = zext16 (b + 1) := by
    rw [(low_high_zext16 b).1, (low_high_zext16 b).2]
    apply BitVec.eq_of_toNat_eq
    rw [word16_to_nat, zext16_toNat]
    simp
  simp only [readPointer, hnext]

/-- Settles O9: a pointer's two reads make the base address, and IZY indexes it. -/
theorem resolveThroughPointer : Obligations.ResolveThroughPointer := by
  intro pc0 s
  refine ⟨fun ptr => ?ind, fun z => ?izx, fun z => ?izy⟩
  case ind =>
    refine ⟨_, word16_to_nat _ _, ?_⟩
    rw [next_in_page]
    rfl
  case izx =>
    have hp : BitVec.ofNat 16 ((z.toNat + s.cpu.x.toNat) % 256) = zext16 (z + s.cpu.x) := by
      rw [zext16_eq_ofNat, BitVec.toNat_add]
    have hnext : BitVec.ofNat 16 (((zext16 (z + s.cpu.x)).toNat + 1) % 256) =
        zext16 (z + s.cpu.x + 1) := by
      rw [zext16_eq_ofNat (z + s.cpu.x + 1), BitVec.toNat_add _ 1, zext16_toNat]
      rfl
    simp only [hp, hnext]
    refine ⟨_, word16_to_nat _ _, ?_⟩
    simp only [resolve, readPointer_zeroPage, direct]
  case izy =>
    have hp : BitVec.ofNat 16 z.toNat = zext16 z := (zext16_eq_ofNat z).symm
    have hnext : BitVec.ofNat 16 ((z.toNat + 1) % 256) = zext16 (z + 1) := by
      rw [zext16_eq_ofNat, BitVec.toNat_add]
      rfl
    -- Y is not moved by the pointer's reads.
    have hy : (memRead (zext16 (z + 1)) (memRead (zext16 z) s).2).2.cpu.y = s.cpu.y :=
      (congrArg Regs.y ((memRead_access _ s).trans (memRead_access _ _)).regs :)
    rw [hp, hnext]
    refine ⟨_, _, word16_to_nat _ _, index_toNat _ _, ?_⟩
    simp only [resolve, readPointer_zeroPage, hy, indexed_eq]

/-! ### The operand primitives -/

/-- Settles O10: one equation per case of R405. -/
theorem operandPrimitives : Obligations.OperandPrimitives := by
  intro s v f
  refine ⟨fun _ => rfl, fun _ => rfl, rfl, fun _ => rfl, rfl, fun ea t h => ?_⟩
  simp only [rmw, h]

end Sys2Proof.Machine

/-! ## 40_cpu_engine.md: cycles (R419 to R424) -/

namespace Sys2Proof.Machine

theorem branch_target_eq (pc0 : Word) (d : Byte) :
    pc0 + 2 + sext16 d = BitVec.ofInt 16 (pc0.toNat + 2 + d.toInt) := by
  rw [BitVec.ofInt_add, BitVec.ofInt_add, BitVec.ofInt_natCast, BitVec.ofNat_toNat, BitVec.setWidth_eq]
  rfl

theorem decodeInstr_row (op b1 b2 : Byte) : (decodeInstr op b1 b2).row = opRow op := by
  rw [Instr.row, Instr.opcode, decodeInstr_opcode?]
  rfl

/-- The page-cross column of the table is the list of R421. -/
theorem row_page_eq {i : Instr} (h : i.wellFormed = true) : i.row.page = hasPageColumn i := by
  obtain ⟨op, b1, b2, rfl⟩ := exists_decodeInstr h
  rw [decodeInstr_row]
  exact opRow_congr (f := fun r => r.page) (g := fun r => hasPageColumn (r.make b1 b2)) rfl rfl op

theorem pagePenalty_eq (row : OpRow) (crossed : Bool) :
    pagePenalty row crossed = if row.page = true ∧ crossed = true then 1 else 0 := by
  simp only [pagePenalty, Bool.and_eq_true]

theorem samePage_iff (a b : Word) : a &&& 0xFF00 = b &&& 0xFF00 ↔ pageDiffers a b = false := by
  have hinj : word16 0 (highByte a) = word16 0 (highByte b) ↔ highByte a = highByte b :=
    ⟨fun h => by simpa using congrArg highByte h, fun h => by rw [h]⟩
  rw [and_ff00, and_ff00, hinj, pageDiffers, bne_eq_false_iff_eq]

theorem branchPenalty_relative (taken : Bool) (pc0 target : Word) :
    branchPenalty taken pc0 (.relative target) =
      if taken = false then 0
      else if (pc0 + 2) &&& 0xFF00 = target &&& 0xFF00 then 1 else 2 := by
  simp only [samePage_iff, branchPenalty]
  cases taken
  · rfl
  · cases pageDiffers (pc0 + 2) target <;> rfl

/-- Settles O11: the page column row by row of the table, the rest by each penalty's own rule. -/
theorem cyclePenalties : Obligations.CyclePenalties := by
  refine ⟨fun d pc0 s => ?_, fun i => row_page_eq, pagePenalty_eq, branchPenalty_relative,
    fun _ _ _ => rfl, fun _ _ _ _ => rfl⟩
  rw [resolve, branch_target_eq]

/-! ### The total (R424) -/

/-- The longest row takes 8 cycles, with its page penalty if it has one. -/
theorem row_base_le (i : Instr) : i.row.base + i.row.page.toNat ≤ 8 :=
  of_decide_eq_true
    (opRow_all (p := fun r => decide (r.base + r.page.toNat ≤ 8)) (by decide) (by decide) i.opcode)

theorem pagePenalty_le (row : OpRow) (crossed : Bool) : pagePenalty row crossed ≤ row.page.toNat := by
  cases h : row.page <;> cases crossed <;> simp [pagePenalty, h]

/-- No branch has the page column. -/
theorem pagePenalty_of_rel {i : Instr} (hw : i.wellFormed = true) (h : i.form.mode = .rel)
    (crossed : Bool) : pagePenalty i.row crossed = 0 := by
  obtain ⟨op, b1, b2, rfl⟩ := exists_decodeInstr hw
  rw [decodeInstr_form, mode_form_mode] at h
  have hrow := opRow_all (p := fun r => decide (r.mode = .rel → r.page = false)) (by decide) (by decide) op
  rw [decodeInstr_row, pagePenalty, of_decide_eq_true hrow h]
  rfl

/-- Only a branch target costs a branch penalty, of two cycles at most. -/
theorem branchPenalty_cases (taken : Bool) (pc0 : Word) (o : Operand) :
    branchPenalty taken pc0 o = 0 ∨
      (∃ target, o = .relative target) ∧ branchPenalty taken pc0 o ≤ 2 := by
  cases o with
  | relative target =>
    refine .inr ⟨⟨_, rfl⟩, ?_⟩
    rw [branchPenalty]
    split_ifs <;> omega
  | _ => exact .inl rfl

theorem dmaPenalty_le (t : Nat) (i : Instr) (o : Operand) (total0 : Nat) :
    dmaPenalty t i o total0 ≤ 514 := by
  unfold dmaPenalty
  split_ifs <;> omega

/-- A branch target is no address of the DMA register. -/
theorem dmaPenalty_relative (t : Nat) (i : Instr) (target : Word) (total0 : Nat) :
    dmaPenalty t i (.relative target) total0 = 0 := if_neg nofun

theorem fits_relative {f : Form} {target : Word} (h : operandFits f (.relative target) = true) :
    f.mode = .rel := by
  cases f with
  | rel d => rfl
  | _ => cases h

/-- The record's total is the base count and the penalties (R424). -/
theorem newRecord_total (i : Instr) (s : State) :
    let r := (newRecord i s).1
    let total0 := i.row.base + pagePenalty i.row (resolve i.form s.cpu.pc s).crossed +
      branchPenalty r.taken s.cpu.pc r.operand
    r.total = total0 + dmaPenalty s.t i r.operand total0 := rfl

theorem two_le_newRecord_total (i : Instr) (s : State) : 2 ≤ (newRecord i s).1.total := by
  have := two_le_base i
  rw [newRecord_total]
  omega

/-- Settles O12: with a branch target, neither the page nor the DMA penalty applies; without one, no branch
penalty does. -/
theorem cycleTotals : Obligations.CycleTotals := by
  intro i s hw r page branch total0
  have hbase := row_base_le i
  have hpage : page ≤ i.row.page.toNat := pagePenalty_le _ _
  have htotal : r.total = total0 + dmaPenalty s.t i r.operand total0 := newRecord_total i s
  refine ⟨htotal, ?_, two_le_newRecord_total i s, ?_⟩ <;>
    rcases branchPenalty_cases r.taken s.cpu.pc r.operand with hbranch | ⟨⟨target, ho⟩, hbranch⟩
  · exact .inr hbranch
  · have hfits : operandFits i.form r.operand = true := resolve_fits _ _ _
    rw [ho] at hfits
    exact .inl (pagePenalty_of_rel hw (fits_relative hfits) _)
  · have hdma := dmaPenalty_le s.t i r.operand total0
    omega
  · have hdma : dmaPenalty s.t i r.operand total0 = 0 := by rw [ho, dmaPenalty_relative]
    omega

end Sys2Proof.Machine

/-! ## 40_cpu_engine.md: the fetch (R401, R402) and the polls (R440, R441, R912) -/

namespace Sys2Proof.Machine

/-! ### The fetch -/

/-- An opcode and its row's operand bytes, no more and no fewer, decode to the row's instruction. -/
theorem decode_operands {op b1 b2 : Byte} {bytes : List Byte}
    (h : [op, b1, b2].take (opRow op).length = bytes) :
    decode bytes = .ok (decodeInstr op b1 b2, []) := by
  simpa [h] using decode_take_append op b1 b2 []

theorem fetch_instr {s : State} (h : s.cpu.intReq = none) : fetch s = fetchInstr s := by
  rw [fetch, h]

theorem fetchInstr_unstable {s : State} (h : (opRow (memRead s.cpu.pc s).1).cls = .unstable) :
    fetchInstr s =
      .refused (refuse (.unstableOpcode (memRead s.cpu.pc s).1) (memRead s.cpu.pc s).2) :=
  if_pos h

theorem fetchInstr_stable {s : State} (h : (opRow (memRead s.cpu.pc s).1).cls ≠ .unstable) :
    fetchInstr s =
      let b0 := memRead s.cpu.pc s
      let rest := fetchOperands (opRow b0.1) s.cpu.pc b0.2
      .next (issue (decodeInstr b0.1 rest.1 rest.2.1) rest.2.2) :=
  if_neg h

/-- Settles O13: the operand bytes read are those the decoder takes. -/
theorem fetchDecodes : Obligations.FetchDecodes := by
  intro s hs b0 b1 b2
  rw [fetch_instr hs]
  refine ⟨fetchInstr_unstable, fun hcls => ?_⟩
  rw [fetchInstr_stable hcls]
  refine ⟨fun hlen => ⟨decodeInstr b0.1 0 0, ?_, ?_⟩, fun hlen => ⟨decodeInstr b0.1 b1.1 0, ?_, ?_⟩,
    fun hlen => ⟨decodeInstr b0.1 b1.1 b2.1, ?_, ?_⟩⟩
  · exact decode_operands (by rw [hlen]; rfl)
  · simp only [fetchOperands, b0, hlen]
  · exact decode_operands (by rw [hlen]; rfl)
  · simp only [fetchOperands, b0, b1, hlen]
  · exact decode_operands (by rw [hlen]; rfl)
  · simp only [fetchOperands, b0, b1, b2, hlen]

/-! ### The polls -/

theorem stack_or (sp : Byte) : (0x0100 ||| zext16 sp : Word) = 0x0100 + zext16 sp := by
  revert sp; decide +kernel

/-- RTI polls with the I its pull will read (R440). -/
theorem iForPoll_eq (i : Instr) (s : State) : iForPoll i s =
    if i = .rti then (memRead (0x0100 ||| zext16 (s.cpu.s + 1)) s).1.getLsbD 2
    else s.cpu.p.getLsbD 2 := by
  rw [stack_or, pull_byte_eq_mem_read]
  split_ifs with h
  · rw [h]; rfl
  · unfold iForPoll
    split
    · exact absurd rfl h
    · rfl

theorem poll_instr {r : Inflight} {i : Instr} (s : State) (hk : r.kind = .op i) (hi : i ≠ .brk) :
    poll r s = { s with cpu := { s.cpu with intReq := pollResult i s } } := by
  unfold poll
  split
  · next h => rw [hk] at h; cases h
  · next h => rw [hk] at h; cases h; exact absurd rfl hi
  · next h => rw [hk] at h; cases h; rfl

theorem poll_hijack {r : Inflight} (s : State) (hk : (∃ q, r.kind = .seq q) ∨ r.kind = .op .brk) :
    poll r s = hijackPoll r s := by
  unfold poll
  rcases hk with ⟨q, hk⟩ | hk <;> rw [hk]

theorem hijackPoll_eq (r : Inflight) (s : State) : hijackPoll r s =
    if (r.kind = .seq .irq ∨ r.kind = .op .brk) ∧ s.cpu.nmiPending = true then
      { s with cpu := { s.cpu with
          inflight := some { r with hijacked := true }, nmiPending := false, intReq := none } }
    else { s with cpu := { s.cpu with inflight := some r, intReq := none } } := by
  have hkind : hijackable r.kind = true ↔ r.kind = .seq .irq ∨ r.kind = .op .brk := by
    unfold hijackable
    split <;> simp_all
  split_ifs with h
  · obtain ⟨hk, hn⟩ := h
    simp [hijackPoll, mapCpu, hkind.2 hk, hn]
  · have hhit : (hijackable r.kind && s.cpu.nmiPending) = false := by simpa [← hkind] using h
    simp [hijackPoll, mapCpu, hhit]

theorem irqLine_iff (s : State) : irqLine s = true ↔
    s.apu.seq.frameIrq = true ∨ s.apu.dmc.irqFlag = true ∨ s.cart.mapper.irqPending = true := by
  simp only [irqLine, Bool.or_eq_true, or_assoc]

/-- Everything but a branch polls at the entry of its final cycle (R441). -/
theorem pollPoint_other {r : Inflight} (h : ∀ i, r.kind = .op i → i.form.mode ≠ .rel) :
    pollPoint r = true ↔ r.elapsed + 1 = r.total := by
  have hb : isBranch r.kind = false := by
    cases hk : r.kind with
    | op i => exact decide_eq_false (h i hk)
    | seq q => rfl
  simp [pollPoint, hb]

theorem pollPoint_branch {r : Inflight} {i : Instr} (hk : r.kind = .op i) (h : i.form.mode = .rel) :
    pollPoint r = true ↔ r.elapsed = 1 ∨ (r.elapsed = 3 ∧ r.total = 4) := by
  have hb : isBranch r.kind = true := by rw [hk]; exact decide_eq_true h
  simp [pollPoint, hb]

/-- Settles O17: a poll is the hijack check or the record of what is pending, by the kind in flight. -/
theorem interruptPolls : Obligations.InterruptPolls := by
  refine ⟨fun r s hk => ?_, fun r i s hk hi => ?_,
    fun r => ⟨pollPoint_other, fun i hk h => ?_⟩⟩
  · rw [poll_hijack s hk, hijackPoll_eq]
  · intro irq masked
    have hline : irqLine s = true ↔ irq := irqLine_iff s
    have hmask : iForPoll i s = true ↔ masked := by rw [iForPoll_eq]; unfold masked; split <;> rfl
    have hirq : (irqLine s && !iForPoll i s) = true ↔ irq ∧ ¬ masked := by
      rw [← hline, ← hmask]; simp
    rw [poll_instr s hk hi, pollResult]
    refine ⟨fun hn => ?_, fun hn h => ?_, fun hn h => ?_⟩
    · simp [hn]
    · simp [hn, hirq.2 h]
    · rw [← hirq] at h
      simp [hn, h]
  · rw [pollPoint_branch hk h]
    omega

end Sys2Proof.Machine

/-! ## 40_cpu_engine.md: what no instruction moves (R404, R860) -/

namespace Sys2Proof.Machine

/-- The CPU's fields that no instruction has a meaning for, JAM's `halted` apart: the stall, the edge detector
and the halt. -/
def Cpu.hidden (c : Cpu) : Nat × Bool × Bool := (c.dmcStall, c.nmiPrev, c.halted)

/-- What every instruction but JAM keeps: the fixed part of the machine and the hidden part of the CPU. -/
structure HiddenKept (s t : State) : Prop where
  fixed : t.fixed = s.fixed
  cpu : t.cpu.hidden = s.cpu.hidden

theorem HiddenKept.trans {s t u : State} (h : HiddenKept s t) (h' : HiddenKept t u) : HiddenKept s u :=
  ⟨h'.fixed.trans h.fixed, h'.cpu.trans h.cpu⟩

theorem HiddenKept.of_access {s t : State} (h : BusAccess s t) : HiddenKept s t :=
  ⟨h.fixed, (congrArg Cpu.hidden h.cpu :)⟩

theorem HiddenKept.of_cpu {s : State} {c : Cpu} (h : c.hidden = s.cpu.hidden) :
    HiddenKept s { s with cpu := c } := ⟨rfl, h⟩

theorem HiddenKept.of_write {a : Word} {v : Byte} {s t : State} (h : memWrite a v s = .ok t) :
    HiddenKept s t := by
  have hw := memWrite_outcome a v s
  rw [h] at hw
  exact .of_access hw

/-- The functions an effect applies to the CPU keep its hidden part. -/
def Effect.KeepsHidden : Effect → Prop
  | onCpu g => ∀ c, (g c).hidden = c.hidden
  | reads g => ∀ v c, (g v c).hidden = c.hidden
  | stores _ => True
  | modifies g h => (∀ m c, (g m c).2.hidden = c.hidden) ∧ ∀ v c, (h v c).hidden = c.hidden
  | pushes _ => True
  | pulls g => ∀ v c, (g v c).hidden = c.hidden
  | looks => True

theorem rmw_hidden {f : Byte → Cpu → Byte × Cpu} (hf : ∀ m c, (f m c).2.hidden = c.hidden) {o : Operand}
    {r : Byte} {s t : State} (h : rmw f o s = .ok (r, t)) : HiddenKept s t := by
  rcases rmw_cases f o s t r h with ⟨-, -, rfl⟩ | ⟨a, -, -, hw⟩
  · exact .of_cpu (hf _ _)
  · have hread : HiddenKept s (memRead a s).2 := .of_access (memRead_access a s)
    exact hread.trans ((HiddenKept.of_cpu (hf _ _)).trans (.of_write hw))

theorem Effect.run_hidden {e : Effect} (he : e.KeepsHidden) {r : Inflight} {s t : State}
    (h : e.run r s = .ok t) : HiddenKept s t := by
  cases e with
  | onCpu g => cases h; exact .of_cpu (he _)
  | reads g =>
    simp only [run, readEffect] at h
    split at h <;> cases h
    next v u hu => exact (HiddenKept.of_access (load_access hu)).trans (.of_cpu (he _ _))
  | stores v =>
    obtain ⟨a, -, hw⟩ := store_cases _ _ _ _ h
    exact .of_write hw
  | modifies f g =>
    simp only [run, rmwEffect] at h
    split at h <;> cases h
    next v u hu => exact (rmw_hidden he.1 hu).trans (.of_cpu (he.2 _ _))
  | pushes v => cases h; exact ⟨rfl, rfl⟩
  | pulls g => cases h; exact ⟨rfl, he _ _⟩
  | looks =>
    simp only [run, nopEffect] at h
    split at h <;> cases h
    · exact .of_access (memRead_access _ s)
    · exact ⟨rfl, rfl⟩

theorem meaning_keeps_hidden {i : Instr} {e : Effect} (h : meaningOf i = .effect e) : e.KeepsHidden := by
  cases i with
  | inc _ | dec _ | asl _ | lsr _ | rol _ | ror _ | dcp _ | isc _ | slo _ | rla _ | sre _ | rra _ =>
    cases h; exact ⟨fun _ _ => rfl, fun _ _ => rfl⟩
  | sta _ | stx _ | sty _ | sax _ | pha | php | nopAlt _ _ => cases h; trivial
  | tax | tay | txa | tya | tsx | txs | inx | iny | dex | dey | clc | sec | cli | sei | cld | sed | clv
  | nop => cases h; exact fun _ => rfl
  | _ => cases h <;> exact fun _ _ => rfl

theorem takeInterrupt_hidden (ret : Word) (image : Byte) (vec : Word) (s : State) :
    HiddenKept s (takeInterrupt ret image vec s).2 := by
  have h : HiddenKept s (mapCpu (setI true) (push image (pushWord ret s))) := ⟨rfl, rfl⟩
  exact h.trans (.of_access (read16_access vec _))

/-- A jump, JAM apart, keeps the hidden part too. -/
theorem jump_hidden {i : Instr} (hi : ∀ op, i ≠ .jam op) {e : Inflight → State → Word × State}
    (h : meaningOf i = .jump e) (r : Inflight) (s : State) : HiddenKept s (e r s).2 := by
  cases i with
  | brk => cases h; exact takeInterrupt_hidden _ _ _ s
  | jam op => exact absurd rfl (hi op)
  | _ => cases h <;> exact ⟨rfl, rfl⟩

theorem preOf_hidden (i : Instr) (s : State) : HiddenKept s (preOf i s) := .of_access (preOf_access i s)

/-- A completed instruction, JAM apart, keeps everything hidden, whatever its record. -/
theorem exec_hidden {i : Instr} (hi : ∀ op, i ≠ .jam op) {s t : State} (h : exec i s = .next t) :
    HiddenKept s t := by
  rw [exec_eq_run] at h
  cases hm : meaningOf i with
  | effect e =>
    rw [hm] at h
    obtain ⟨u, hu, rfl⟩ := run_instr_cases i e.run s t h
    exact (preOf_hidden i s).trans ((Effect.run_hidden (meaning_keeps_hidden hm) hu).trans (.of_cpu rfl))
  | jump e =>
    rw [hm, Meaning.run, run_jump_eq] at h
    cases h
    exact (preOf_hidden i s).trans ((jump_hidden hi hm _ _).trans (.of_cpu rfl))
  | refused op => rw [hm] at h; cases h

/-- JAM halts the CPU at its opcode (R860). -/
theorem exec_jam (op : Byte) (s : State) : exec (.jam op) s =
    .next (endsAt (recOf (.jam op) s).pc0
      (mapCpu (fun c => { c with halted := true }) (preOf (.jam op) s))) := rfl

/-- A completed instruction keeps everything hidden but, for JAM, the halt. -/
theorem exec_kept {i : Instr} {s t : State} (h : exec i s = .next t) :
    t.fixed = s.fixed ∧ t.cpu.dmcStall = s.cpu.dmcStall ∧ t.cpu.nmiPrev = s.cpu.nmiPrev ∧
      ((∀ op, i ≠ .jam op) → t.cpu.halted = s.cpu.halted) := by
  by_cases hi : ∀ op, i ≠ .jam op
  · obtain ⟨hfixed, hcpu⟩ := exec_hidden hi h
    simp only [Cpu.hidden, Prod.mk.injEq] at hcpu
    obtain ⟨hstall, hprev, hhalt⟩ := hcpu
    exact ⟨hfixed, hstall, hprev, fun _ => hhalt⟩
  · obtain ⟨op, rfl⟩ : ∃ op, i = .jam op := by simpa using hi
    obtain ⟨hfixed, hcpu⟩ := preOf_hidden (.jam op) s
    simp only [Cpu.hidden, Prod.mk.injEq] at hcpu
    rw [exec_jam] at h
    cases h
    exact ⟨hfixed, hcpu.1, hcpu.2.1, fun hne => absurd rfl (hne op)⟩

/-- Completing leaves nothing in flight (R404). -/
theorem exec_inflight {i : Instr} {s t : State} (h : exec i s = .next t) : t.cpu.inflight = none := by
  rw [exec_eq_run] at h
  cases hm : meaningOf i with
  | effect e => rw [hm] at h; obtain ⟨u, -, rfl⟩ := run_instr_cases i e.run s t h; rfl
  | jump e => rw [hm] at h; cases h; rfl
  | refused op => rw [hm] at h; cases h

/-- Settles O45: the fixed part of the machine holds every field named of it. -/
theorem hiddenStateFrame : Obligations.HiddenStateFrame := by
  intro i s t h
  obtain ⟨hfixed, hstall, hprev, hhalt⟩ := exec_kept h
  simp only [State.fixed, Ppu.fixed, Cart.fixed, State.mk.injEq, Ppu.mk.injEq, Cart.mk.injEq] at hfixed
  simp only [hfixed, exec_inflight h, true_and]
  exact ⟨hstall, hprev, hhalt, trivial⟩

end Sys2Proof.Machine

/-! ## 40_cpu_engine.md: what the devices' part of a cycle does to the CPU (R450, R451, R1501) -/

namespace Sys2Proof.Machine

/-! ### The dots -/

/-- The machine with everything blanked that a dot can change: the PPU, the mapper, and what goes to the frame
sink (R1040, R1096, R1281). -/
def State.offDot (s : State) : State :=
  { s with
    ppu := Ppu.powerUp Fill.blank, cart := { s.cart with mapper := .nrom }, frames := 0
    host := { s.host with sink := none }
    apu := { s.apu with mix := { s.apu.mix with audio := [] } } }

theorem ppuRead_offDot (a : BitVec 14) (s : State) : (ppuRead a s).2.offDot = s.offDot := by
  unfold ppuRead
  split_ifs <;> rfl

theorem bgFetch_offDot (ph : Nat) (s : State) : (bgFetch ph s).offDot = s.offDot := by
  unfold bgFetch
  split
  · exact ppuRead_offDot _ s
  · exact ppuRead_offDot _ s
  · exact ppuRead_offDot _ s
  · exact ppuRead_offDot _ s
  · rfl
  · rfl

theorem bgStep_offDot (l d : Nat) (s : State) : (bgStep l d s).offDot = s.offDot := by
  unfold bgStep
  lift_lets
  extract_lets s1 s2 s3
  have h1 : s1.offDot = s.offDot := rfl
  have h2 : s2.offDot = s1.offDot := view_ite State.offDot (bgFetch_offDot _ _)
  have h3 : s3.offDot = s2.offDot := view_ite State.offDot (ppuRead_offDot _ _)
  exact h3.trans (h2.trans h1)

theorem spriteSlotStep_offDot (i q : Nat) (s : State) : (spriteSlotStep i q s).offDot = s.offDot := by
  simp only [spriteSlotStep]
  split
  · rfl
  · split <;> exact ppuRead_offDot _ s
  · split <;> exact ppuRead_offDot _ s
  · rfl

theorem spriteFetchStep_offDot (d : Nat) (s : State) : (spriteFetchStep d s).offDot = s.offDot := by
  unfold spriteFetchStep
  split
  · rfl
  · exact spriteSlotStep_offDot _ _ _

theorem advance_offDot (s : State) : (advance s).offDot = s.offDot := by
  simp only [advance, frameComplete]
  split_ifs <;> rfl

theorem ppuDot_offDot (s : State) : (ppuDot s).offDot = s.offDot := by
  unfold ppuDot
  lift_lets
  extract_lets l d s1 s2 s3
  have h1 : s1.offDot = s.offDot := rfl
  have h2 : s2.offDot = s1.offDot :=
    view_ite State.offDot ((spriteFetchStep_offDot _ _).trans (bgStep_offDot _ _ _))
  have h3 : s3.offDot = s2.offDot := view_ite State.offDot rfl
  exact (advance_offDot s3).trans (h3.trans (h2.trans h1))

/-- The three dots of a cycle, with the edge detector after each (R1501). -/
def threeDots (s : State) : State := dotAndDetect (dotAndDetect (dotAndDetect s))

theorem afterCpu_eq (s : State) : afterCpu s = tickT (apuStep (threeDots s)) := rfl

/-- The same with the NMI latch and the edge detector blanked too (R903). -/
def State.offDetect (s : State) : State :=
  { s.offDot with cpu := { s.cpu with nmiPending := false, nmiPrev := false } }

theorem dotAndDetect_offDetect (s : State) : (dotAndDetect s).offDetect = s.offDetect :=
  (congrArg State.offDetect (ppuDot_offDot s) :)

theorem threeDots_offDetect (s : State) : (threeDots s).offDetect = s.offDetect :=
  (dotAndDetect_offDetect _).trans ((dotAndDetect_offDetect _).trans (dotAndDetect_offDetect s))

theorem threeDots_kept (s : State) : CycleKept s (threeDots s) :=
  (dotAndDetect_kept s).trans ((dotAndDetect_kept _).trans (dotAndDetect_kept _))

/-- What reaches the CPU through the edge detector alone. -/
theorem cpu_of_offDetect {s t : State} (h : t.offDetect = s.offDetect) :
    t.t = s.t ∧ ∃ np nv, t.cpu = { s.cpu with nmiPending := np, nmiPrev := nv } := by
  have hcpu : t.offDetect.cpu = s.offDetect.cpu := congrArg State.cpu h
  have htime : t.offDetect.t = s.offDetect.t := congrArg State.t h
  exact ⟨htime, t.cpu.nmiPending, t.cpu.nmiPrev, congrArg (fun c : Cpu => { c with
    nmiPending := t.cpu.nmiPending, nmiPrev := t.cpu.nmiPrev }) hcpu⟩

/-! ### The APU's step -/

theorem dmcReader_idle {s : State} (h : s.apu.dmc.wantsByte = false) : dmcReader s = s := by
  rw [dmcReader, if_neg (by simp [h])]

/-- The reader's read is of cartridge space, which it leaves as it was (R251, R1276). -/
theorem dmcReader_fetch {s : State} (h : s.apu.dmc.wantsByte = true)
    (ha : 0x8000 ≤ s.apu.dmc.curAddr.toNat) : dmcReader s = { s with
      apu := { s.apu with dmc := dmcTake (s.cart.cpuRead s.apu.dmc.curAddr.toNat) s.apu.dmc }
      cpu := { s.cpu with dmcStall := s.cpu.dmcStall + 4 } } := by
  rw [dmcReader, if_pos h, mem_read_cart _ s (by omega)]
  rfl

/-- The APU reaches the CPU through the DMC's stall alone. -/
theorem apuStep_cpu {s : State} (h : s.apu.InRange) : (apuStep s).t = s.t ∧
    ∃ k, (apuStep s).cpu = { s.cpu with dmcStall := k } ∧
      (k = s.cpu.dmcStall ∨ k = s.cpu.dmcStall + 4) := by
  have hrange := (apuTimers_inRange s.t s.apu h).1.1
  unfold apuStep
  cases hw : (apuTimers s.t s.apu).dmc.wantsByte with
  | false =>
    rw [dmcReader_idle (s := { s with apu := apuTimers s.t s.apu }) hw]
    exact ⟨rfl, _, rfl, .inl rfl⟩
  | true =>
    rw [dmcReader_fetch (s := { s with apu := apuTimers s.t s.apu }) hw hrange]
    exact ⟨rfl, _, rfl, .inr rfl⟩

/-- The devices' part of a cycle reaches the CPU through the edge detector and the stall alone (R1501). -/
theorem afterCpu_cpu {s : State} (h : apuInRange s = true) : (afterCpu s).t = s.t + 1 ∧ ∃ np nv k,
    (afterCpu s).cpu = { s.cpu with nmiPending := np, nmiPrev := nv, dmcStall := k } ∧
      (k = s.cpu.dmcStall ∨ k = s.cpu.dmcStall + 4) := by
  obtain ⟨htime, np, nv, hdots⟩ := cpu_of_offDetect (threeDots_offDetect s)
  obtain ⟨ht, k, hk, hstall⟩ := apuStep_cpu ((apuInRange_iff _).1 ((threeDots_kept s).apu h)).1
  rw [hdots] at hk hstall
  rw [afterCpu_eq, tickT_t, tickT_cpu, ht, htime]
  exact ⟨rfl, np, nv, k, hk, hstall⟩

/-! ### Stalled and halted -/

theorem cpuStep_stalled {s : State} (hh : s.cpu.halted = false) (hs : 0 < s.cpu.dmcStall) :
    cpuStep s = .next { s with cpu := { s.cpu with dmcStall := s.cpu.dmcStall - 1 } } := by
  rw [cpuStep, hh, if_neg nofun, if_pos hs]
  rfl

theorem cpuStep_halted {s : State} (hh : s.cpu.halted = true) : cpuStep s = .next s := by
  rw [cpuStep, if_pos hh]

/-- A cycle of a halted CPU is the devices' part alone (R451). -/
theorem cycleState_halted {s : State} (hh : s.cpu.halted = true) (hf : s.fault = none)
    (hr : s.refused = none) : cycleState s = afterCpu s := by
  rw [cycleState, cycle_unmarked hf hr, cpuStep_halted hh]
  rfl

/-- Settles O16: a halted CPU's cycles are the devices' parts, one after the other. -/
theorem stallAndHalt : Obligations.StallAndHalt := by
  refine ⟨fun s => cpuStep_stalled, fun n => ?_⟩
  induction n with
  | zero => exact fun s _ hf hr _ => ⟨_, _, _, rfl, hf, hr, rfl⟩
  | succ n ih =>
    intro s hh hf hr ha
    have hkept := afterCpu_kept s
    obtain ⟨ht, np, nv, k, hcpu, -⟩ := afterCpu_cpu ha
    obtain ⟨k', np', nv', hcpu', hf', hr', ht'⟩ := ih (afterCpu s) (by rw [hcpu]; exact hh)
      (hkept.fault.trans hf) (hkept.refused.trans hr) (hkept.apu ha)
    rw [runCycles, cycleState_halted hh hf hr]
    refine ⟨k', np', nv', by rw [hcpu', hcpu], hf', hr', ?_⟩
    rw [ht', ht, Nat.add_right_comm, Nat.add_assoc]

end Sys2Proof.Machine

/-! ## 40_cpu_engine.md: a step runs the instruction its fetch issues (R400, R401, R404, R1501) -/

namespace Sys2Proof.Machine

/-! ### The final cycle -/

theorem cpuStep_inflight {s : State} {r : Inflight} (hh : s.cpu.halted = false) (hs : s.cpu.dmcStall = 0)
    (hr : s.cpu.inflight = some r) : cpuStep s = advanceInflight s := by
  rw [cpuStep, hh, if_neg nofun, hs, if_neg (lt_irrefl 0), hr]

/-- In its final cycle an instruction completes, after the poll and the count (R400). -/
theorem advanceInflight_final {s : State} {r : Inflight} {i : Instr} (hr : s.cpu.inflight = some r)
    (hk : r.kind = .op i) (ht : r.elapsed + 1 = r.total) :
    advanceInflight s = exec i (countElapsed (pollAtEntry r s)) := by
  obtain ⟨c, hit, hcounted, -, hc⟩ := counted_eq r s hr
  simp only [advanceInflight, hr, hcounted, hc, ht, if_true, complete, hk]

/-- In every other cycle what is in flight counts on. -/
theorem advanceInflight_more {s : State} {r : Inflight} (hr : s.cpu.inflight = some r)
    (ht : r.elapsed + 1 ≠ r.total) : advanceInflight s = .next (countElapsed (pollAtEntry r s)) := by
  obtain ⟨c, hit, hcounted, -, hc⟩ := counted_eq r s hr
  simp only [advanceInflight, hr, hcounted, hc, ht, if_false]

theorem CycleKept.inflight {s t : State} (h : CycleKept s t) : t.cpu.inflight = s.cpu.inflight :=
  (congrArg Cpu.inflight h.cpu :)

theorem CycleKept.halted {s t : State} (h : CycleKept s t) : t.cpu.halted = s.cpu.halted :=
  (congrArg Cpu.halted h.cpu :)

/-- A run to the boundary ends with an instruction's final cycle. -/
theorem runToBoundary_final (n : Nat) {s : State} {r : Inflight} {i : Instr} (hf : s.fault = none)
    (hm : s.refused = none) (hh : s.cpu.halted = false) (hs : s.cpu.dmcStall = 0)
    (hr : s.cpu.inflight = some r) (hk : r.kind = .op i) (ht : r.elapsed + 1 = r.total) :
    runToBoundary (n + 1) s = thenDevices (exec i (countElapsed (pollAtEntry r s))) := by
  rw [runToBoundary, cycle_unmarked hf hm, cpuStep_inflight hh hs hr, advanceInflight_final hr hk ht]
  cases he : exec i (countElapsed (pollAtEntry r s)) with
  | next t =>
    have hdone : (afterCpu t).cpu.inflight = none := (afterCpu_kept t).inflight.trans (exec_inflight he)
    simp only [thenDevices, hdone, Option.isNone_none, if_true]
  | fault f => rfl
  | refused q => rfl

/-- Settles O14: the step's first cycle is the record's last. -/
theorem stepRunsFinalCycle : Obligations.StepRunsFinalCycle := by
  intro s i r hf hm hh hs hr hk ht
  have hfuel : stepFuel s = r.total - r.elapsed + s.cpu.dmcStall + 1023 + 1 := by
    rw [stepFuel, hr]
  rw [step, hfuel, runToBoundary_final _ hf hm hh hs hr hk ht]

/-! ### The first cycle -/

theorem HiddenKept.marks {s t : State} (h : HiddenKept s t) : SameMarks s t :=
  ⟨(congrArg State.fault h.fixed :), (congrArg State.refused h.fixed :)⟩

theorem BusAccess.pc {s t : State} (h : BusAccess s t) : t.cpu.pc = s.cpu.pc :=
  (congrArg Cpu.pc h.cpu :)

theorem issue_kept (i : Instr) (s : State) :
    HiddenKept s (issue i s) ∧ (issue i s).cpu.pc = s.cpu.pc := by
  have h := newRecord_access i s
  exact ⟨(HiddenKept.of_access h).trans (.of_cpu rfl), h.pc⟩

/-- A fetch reads the bus and puts a record in flight (R401). -/
theorem fetch_kept {s t : State} (h : fetch s = .next t) : HiddenKept s t ∧ t.cpu.pc = s.cpu.pc := by
  unfold fetch at h
  split at h
  · cases h; exact ⟨⟨rfl, rfl⟩, rfl⟩
  · simp only [fetchInstr] at h
    split at h <;> cases h
    generalize decodeInstr _ _ _ = i
    have hread := (memRead_access s.cpu.pc s).trans
      (fetchOperands_access (opRow (memRead s.cpu.pc s).1) s.cpu.pc _)
    obtain ⟨hissue, hpc⟩ := issue_kept i
      (fetchOperands (opRow (memRead s.cpu.pc s).1) s.cpu.pc (memRead s.cpu.pc s).2).2.2
    exact ⟨(HiddenKept.of_access hread).trans hissue, hpc.trans hread.pc⟩

/-- `m` is an unmarked, running state with record `r₀` in flight, of which `e` cycles have passed; a hijack
may have marked it (R912). -/
structure Midway (r₀ : Inflight) (e : Nat) (m : State) : Prop where
  fault : m.fault = none
  refused : m.refused = none
  halted : m.cpu.halted = false
  record : ∃ hit, m.cpu.inflight = some { r₀ with hijacked := hit, elapsed := e }

theorem Midway.kept {r₀ : Inflight} {e : Nat} {m t : State} (h : Midway r₀ e m) (ht : CycleKept m t) :
    Midway r₀ e t :=
  ⟨ht.fault.trans h.fault, ht.refused.trans h.refused, ht.halted.trans h.halted, by
    rw [ht.inflight]; exact h.record⟩

/-- The poll and the count leave the CPU's hidden part. -/
theorem counted_hidden (r : Inflight) (s : State) :
    (countElapsed (pollAtEntry r s)).cpu.hidden = s.cpu.hidden := by
  simp only [pollAtEntry, poll]
  split
  · split <;> rfl
  · rfl

theorem counted_apu (r : Inflight) (s : State) : (countElapsed (pollAtEntry r s)).apu = s.apu := by
  simp only [pollAtEntry, poll]
  split
  · split <;> rfl
  · rfl

theorem Midway.counted {r₀ r : Inflight} {e : Nat} {m : State} (h : Midway r₀ e m)
    (hr : m.cpu.inflight = some r) : Midway r₀ (e + 1) (countElapsed (pollAtEntry r m)) := by
  obtain ⟨hit, hrec⟩ := h.record
  obtain rfl := Option.some.inj (hrec.symm.trans hr)
  obtain ⟨c, hit', hcounted, -, hc⟩ := counted_eq _ m hr
  have hhalt : c.halted = m.cpu.halted := by
    have := congrArg (fun x => x.2.2) (counted_hidden { r₀ with hijacked := hit, elapsed := e } m)
    rwa [hcounted] at this
  rw [hcounted]
  exact ⟨h.fault, h.refused, hhalt.trans h.halted, hit', hc⟩

theorem thenDevices_next {o : Host.Outcome State Fault Refusal} {u : State} (h : thenDevices o = .next u) :
    ∃ t, o = .next t ∧ u = afterCpu t := by
  cases o with
  | next t => exact ⟨t, rfl, (Host.Outcome.next.inj h).symm⟩
  | fault f => cases h
  | refused r => cases h

/-- A cycle that is not the record's last counts it on, and touches neither the stall nor the APU. -/
theorem Midway.advance {r₀ : Inflight} {e : Nat} {m : State} (h : Midway r₀ e m)
    (ht : e + 1 ≠ r₀.total) : ∃ v, advanceInflight m = .next v ∧ Midway r₀ (e + 1) v ∧
      v.cpu.dmcStall = m.cpu.dmcStall ∧ v.apu = m.apu := by
  obtain ⟨hit, hr⟩ := h.record
  exact ⟨_, advanceInflight_more hr ht, h.counted hr, congrArg Prod.fst (counted_hidden _ m),
    counted_apu _ m⟩

theorem Midway.cpuStep_eq {r₀ : Inflight} {e : Nat} {m : State} (h : Midway r₀ e m)
    (hs : m.cpu.dmcStall = 0) : cpuStep m = advanceInflight m := by
  obtain ⟨hit, hr⟩ := h.record
  exact cpuStep_inflight h.halted hs hr

/-- The record's last cycle leaves nothing in flight. -/
theorem Midway.last {r₀ : Inflight} {e : Nat} {m t : State} {i : Instr} (h : Midway r₀ e m)
    (hk : r₀.kind = .op i) (ht : e + 1 = r₀.total) (ha : advanceInflight m = .next t) :
    t.cpu.inflight = none := by
  obtain ⟨hit, hr⟩ := h.record
  rw [advanceInflight_final hr hk ht] at ha
  exact exec_inflight ha

/-- A cycle that leaves something in flight leaves the same record, stalled or counted on. -/
theorem Midway.of_cycle {r₀ : Inflight} {e : Nat} {m u : State} {i : Instr} (h : Midway r₀ e m)
    (hk : r₀.kind = .op i) (hc : cycle m = .next u) (hu : u.cpu.inflight.isSome = true) :
    ∃ e', Midway r₀ e' u := by
  rw [cycle_unmarked h.fault h.refused] at hc
  obtain ⟨v, hv, rfl⟩ := thenDevices_next hc
  rw [(afterCpu_kept v).inflight] at hu
  suffices hmid : ∃ e', Midway r₀ e' v from hmid.imp fun _ hmid => hmid.kept (afterCpu_kept v)
  by_cases hs : 0 < m.cpu.dmcStall
  · rw [cpuStep_stalled h.halted hs] at hv
    cases hv
    exact ⟨e, h.fault, h.refused, h.halted, h.record⟩
  · rw [h.cpuStep_eq (by omega)] at hv
    by_cases ht : e + 1 = r₀.total
    · rw [h.last hk ht hv] at hu
      cases hu
    · obtain ⟨w, hw, hmid, -⟩ := h.advance ht
      obtain rfl := Host.Outcome.next.inj (hw.symm.trans hv)
      exact ⟨_, hmid⟩

theorem Midway.stays {r₀ : Inflight} {e n : Nat} {m t : State} {i : Instr} (h : Midway r₀ e m)
    (hk : r₀.kind = .op i) (ht : StaysInFlight n m t) : ∃ e', Midway r₀ e' t := by
  induction n generalizing e m with
  | zero => cases ht; exact ⟨e, h⟩
  | succ n ih =>
    obtain ⟨u, hc, hu, hrest⟩ := ht
    obtain ⟨e', hmid⟩ := h.of_cycle hk hc hu
    exact ih hmid hrest

/-- A run to the boundary goes through the cycles that leave something in flight. -/
theorem runToBoundary_stays {n : Nat} (k : Nat) {s m : State} (h : StaysInFlight n s m) :
    runToBoundary (k + n) s = runToBoundary k m := by
  induction n generalizing s with
  | zero => cases h; rfl
  | succ n ih =>
    obtain ⟨u, hc, hu, hrest⟩ := h
    rw [← Nat.add_assoc, runToBoundary, hc, ← ih hrest]
    simp only [Option.isNone_eq_false_iff.2 hu, Bool.false_eq_true, if_false]

theorem cpuStep_boundary {s t : State} (hh : s.cpu.halted = false) (hs : s.cpu.dmcStall = 0)
    (hn : s.cpu.inflight = none) (h : fetch s = .next t) : cpuStep s = advanceInflight t := by
  rw [cpuStep, hh, if_neg nofun, hs, if_neg (lt_irrefl 0), hn, h]

/-- The first cycle of an instruction fetches it and counts it (R400, R401). -/
theorem cycle_fetch {s u : State} {i : Instr} (hf : s.fault = none) (hm : s.refused = none)
    (hh : s.cpu.halted = false) (hs : s.cpu.dmcStall = 0) (hn : s.cpu.inflight = none)
    (h : fetch s = .next (issue i u)) : ∃ v, cycle s = .next (afterCpu v) ∧
      Midway (newRecord i u).1 1 v ∧ v.cpu.dmcStall = 0 ∧ v.apu = (issue i u).apu := by
  obtain ⟨hkept, -⟩ := fetch_kept h
  have hhidden := hkept.cpu
  simp only [Cpu.hidden, Prod.mk.injEq, hs, hh] at hhidden
  obtain ⟨hstall, -, hhalt⟩ := hhidden
  obtain ⟨hfault, hrefused⟩ := hkept.marks
  have hmid : Midway (newRecord i u).1 0 (issue i u) :=
    ⟨hfault.trans hf, hrefused.trans hm, hhalt, false, rfl⟩
  have htotal := two_le_newRecord_total i u
  obtain ⟨v, hv, hmid, hstall', hapu⟩ := hmid.advance (by omega)
  refine ⟨v, ?_, hmid, hstall'.trans hstall, hapu⟩
  rw [cycle_unmarked hf hm, cpuStep_boundary hh hs hn h, hv, thenDevices]

/-! ### With no byte for the DMC to fetch -/

theorem ppuRegRead_apu (r : Nat) (s : State) : (ppuRegRead r s).2.apu = s.apu := by
  unfold ppuRegRead
  split
  · rfl
  · rfl
  · simp only [latchPpu, dataRead, ppuRead]
    split_ifs <;> rfl
  · rfl

/-- A read of the bus can acknowledge the frame interrupt, and touches no channel (R1230). -/
theorem memRead_dmc (a : Word) (s : State) : (memRead a s).2.apu.dmc = s.apu.dmc := by
  rcases mem_read_cases a s with h | h | h | h | h | h | h | h | h <;> rw [h]
  · rw [ppuRegRead_apu]
  · rfl
  · obtain ⟨shift, count, h⟩ := controllerRead1_state s
    rw [h]
  · obtain ⟨shift, count, h⟩ := controllerRead2_state s
    rw [h]
  · rfl

theorem readPointer_dmc (p : Word) (s : State) : (readPointer p s).2.apu.dmc = s.apu.dmc :=
  (memRead_dmc _ _).trans (memRead_dmc p s)

theorem issue_dmc (i : Instr) (s : State) : (issue i s).apu.dmc = s.apu.dmc := by
  have hnew : (issue i s).apu.dmc = (resolve i.form s.cpu.pc s).after.apu.dmc := rfl
  rw [hnew]
  cases i.form with
  | ind a => exact readPointer_dmc a s
  | izx z => exact readPointer_dmc _ s
  | izy z => exact readPointer_dmc _ s
  | _ => rfl

theorem frameSeqStep_dmc (u : Apu) : (frameSeqStep u).dmc = u.dmc := by
  have hcount : ∀ u, (frameSeqCount u).dmc = u.dmc := by
    intro u
    simp only [frameSeqCount, fourStepEvent, fiveStepEvent]
    split <;> split <;> rfl
  unfold frameSeqStep
  split
  · exact hcount u
  · split
    · rfl
    · exact hcount _

theorem dmcTimer_bytesRemaining (c : Dmc) : (dmcTimer c).bytesRemaining = c.bytesRemaining := by
  simp only [dmcTimer]
  split_ifs
  · split <;> rfl
  · rfl
  · rfl

theorem apuTimers_bytesRemaining (t : Nat) (u : Apu) :
    (apuTimers t u).dmc.bytesRemaining = u.dmc.bytesRemaining := by
  simp only [apuTimers]
  rw [dmcTimer_bytesRemaining]
  split <;> rw [frameSeqStep_dmc]

theorem mixerSample_dmc (n : Nat) (u : Apu) : (mixerSample n u).dmc = u.dmc := by
  simp only [mixerSample]
  split <;> rfl

/-- With no byte left to fetch, the APU's step leaves the CPU (R1276). -/
theorem apuStep_no_bytes {s : State} (h : s.apu.dmc.bytesRemaining = 0) :
    (apuStep s).apu.dmc.bytesRemaining = 0 ∧ (apuStep s).cpu = s.cpu := by
  have htimers : (apuTimers s.t s.apu).dmc.bytesRemaining = 0 := by rw [apuTimers_bytesRemaining, h]
  have hidle : (apuTimers s.t s.apu).dmc.wantsByte = false := by simp [Dmc.wantsByte, htimers]
  rw [apuStep, dmcReader_idle (s := { s with apu := apuTimers s.t s.apu }) hidle]
  refine ⟨?_, rfl⟩
  simp only [mixerSample_dmc, htimers]

/-- The DMC has no byte to fetch and the CPU is not stalled. -/
def Unstalled (m : State) : Prop := m.apu.dmc.bytesRemaining = 0 ∧ m.cpu.dmcStall = 0

theorem Unstalled.of_offDetect {s t : State} (h : t.offDetect = s.offDetect) (hs : Unstalled s) :
    Unstalled t := by
  obtain ⟨-, np, nv, hcpu⟩ := cpu_of_offDetect h
  have hdmc : t.offDetect.apu.dmc = s.offDetect.apu.dmc := congrArg (fun x : State => x.apu.dmc) h
  exact ⟨(congrArg Dmc.bytesRemaining hdmc).trans hs.1, by rw [hcpu]; exact hs.2⟩

/-- So it stays through the devices' part of a cycle. -/
theorem Unstalled.after_devices {m : State} (h : Unstalled m) : Unstalled (afterCpu m) := by
  obtain ⟨hbytes, hstall⟩ := h.of_offDetect (threeDots_offDetect m)
  obtain ⟨hbytes', hcpu⟩ := apuStep_no_bytes hbytes
  rw [afterCpu_eq, Unstalled, tickT_apu, tickT_cpu, hcpu]
  exact ⟨hbytes', hstall⟩

/-- Unstalled, a record runs to its last cycle with no other cycle between. -/
theorem Midway.runs_out {r₀ : Inflight} {n e : Nat} {m : State} (h : Midway r₀ e m) (hm : Unstalled m)
    (hn : e + n + 1 = r₀.total) :
    ∃ t, StaysInFlight n m t ∧ Midway r₀ (e + n) t ∧ Unstalled t := by
  induction n generalizing e m with
  | zero => exact ⟨m, rfl, h, hm⟩
  | succ n ih =>
    obtain ⟨v, hv, hmid, hstall, hapu⟩ := h.advance (by omega)
    have hnext : Midway r₀ (e + 1) (afterCpu v) := hmid.kept (afterCpu_kept v)
    have hv' : Unstalled v := ⟨by rw [hapu]; exact hm.1, hstall.trans hm.2⟩
    obtain ⟨t, hstays, hlast, ht⟩ := ih hnext hv'.after_devices (by omega)
    obtain ⟨hit, hr⟩ := hnext.record
    refine ⟨t, ⟨afterCpu v, ?_, by rw [hr]; rfl, hstays⟩, ?_, ht⟩
    · rw [cycle_unmarked h.fault h.refused, h.cpuStep_eq hm.2, hv, thenDevices]
    · rwa [Nat.add_assoc, Nat.add_comm 1] at hlast

/-- Settles O15: the first cycle puts the fetch's record in flight, every later one keeps it there, and the
run to the boundary ends with its last. -/
theorem stepRunsDecodedInstruction : Obligations.StepRunsDecodedInstruction := by
  intro s u i hf hm hh hs hn hq _ hfetch
  obtain ⟨v, hcycle, hv, hstall, hapu⟩ := cycle_fetch hf hm hh hs hn hfetch
  have hfirst : Midway (newRecord i u).1 1 (afterCpu v) := hv.kept (afterCpu_kept v)
  refine ⟨fun n m r hlt hstays hr hms ht => ?_, fun hbytes => ?_⟩
  · cases n with
    | zero =>
      obtain rfl := hstays
      rw [hn] at hr
      cases hr
    | succ n =>
      have hrun := runToBoundary_stays (1024 - (n + 1)) hstays
      obtain ⟨w, hw, -, hrest⟩ := hstays
      obtain rfl := Host.Outcome.next.inj (hcycle.symm.trans hw)
      obtain ⟨e, hmid⟩ := hfirst.stays rfl hrest
      obtain ⟨hit, hrec⟩ := hmid.record
      obtain rfl := Option.some.inj (hrec.symm.trans hr)
      have hpc : u.cpu.pc = s.cpu.pc := (issue_kept i u).2.symm.trans (fetch_kept hfetch).2
      have hfuel : 1024 - (n + 1) = 1022 - n + 1 := by omega
      refine ⟨rfl, rfl, hpc, rfl, rfl, ?_⟩
      rw [Nat.sub_add_cancel hlt.le, hfuel,
        runToBoundary_final _ hmid.fault hmid.refused hmid.halted hms hr rfl ht] at hrun
      rw [step, stepFuel, hn]
      exact hrun
  · have hidle : Unstalled v := ⟨by rw [hapu, issue_dmc, hbytes], hstall⟩
    obtain ⟨k, hk⟩ := Nat.exists_eq_add_of_le' (two_le_newRecord_total i u)
    obtain ⟨t, hstays, hlast, ht⟩ := hfirst.runs_out (n := k) hidle.after_devices (by omega)
    obtain ⟨hit, hr⟩ := hlast.record
    obtain ⟨hit', hr'⟩ := hfirst.record
    refine ⟨t, _, ?_, hr, ht.2, ?_⟩
    · rw [hk]
      exact ⟨_, hcycle, by rw [hr']; rfl, hstays⟩
    · simp only [hk]; omega

end Sys2Proof.Machine

/-! ## 41_load_store.md: what an instruction does, from the shape of its effect (R404, R405) -/

namespace Sys2Proof.Machine

/-! ### One rule per shape of an effect -/

section Shapes

variable {i : Instr} {s : State}

/-- An instruction whose effect the model gives completes with the state that effect leaves (R404). -/
theorem exec_of_effect {e : Effect} {u : State} (hm : meaningOf i = .effect e)
    (h : e.run (recOf i s) (preOf i s) = .ok u) : exec i s = .next (endsAt (pastPc i s) u) := by
  rw [exec_eq_run, hm]
  exact run_instr_ok i e.run s u h

/-- The operand of a reading instruction is one `Load()` has a case for. -/
theorem readsThen_of_meaning {f eff : Byte → Cpu → Cpu} (hm : meaningOf i = .effect (.reads f))
    (heff : ∀ v c, f v c = eff v c) (hw : i.wellFormed = true) (hf : recordFits i s = true) :
    ReadsThen i s eff := by
  obtain ⟨v, t, hload⟩ := load_ok (preOf i s) (effect_allows hw hm) (rec_of_fits i s hf)
  have hrun : (Effect.reads f).run (recOf i s) (preOf i s) = .ok { t with cpu := eff v t.cpu } := by
    rw [← heff]
    simp only [Effect.run, readEffect, hload, mapCpu]
  exact ⟨v, t, hload, exec_of_effect hm hrun⟩

/-- The operand of a store is an address, and the write there ends well where it reaches no read-only
storage (R214). -/
theorem stores_of_meaning {v : Cpu → Byte} (hm : meaningOf i = .effect (.stores v))
    (hs : isStore i = true) (hw : i.wellFormed = true) (hf : recordFits i s = true)
    (hallowed : writeAllowed i s = true) : Stores i s (v (preOf i s).cpu) := by
  obtain ⟨a, ha⟩ := fits_address (effect_allows hw hm) (rec_of_fits i s hf)
  have hstorable : storable a (preOf i s) = true := by
    simpa only [writeAllowed, ha, storeState_store hs] using hallowed
  obtain ⟨t, ht⟩ := (memWrite_storable a (v (preOf i s).cpu) (preOf i s)).1 hstorable
  have hrun : (Effect.stores v).run (recOf i s) (preOf i s) = .ok t := by
    rw [← ht]
    simp only [Effect.run, storeEffect, ha, store]
  exact ⟨a, t, ha, ht, exec_of_effect hm hrun⟩

theorem sets_of_meaning {f eff : Cpu → Cpu} (hm : meaningOf i = .effect (.onCpu f))
    (heff : ∀ c, f c = eff c) : Sets i s eff := by
  have hrun : (Effect.onCpu f).run (recOf i s) (preOf i s) =
      .ok { preOf i s with cpu := eff (preOf i s).cpu } := by
    rw [← heff]
    rfl
  exact exec_of_effect hm hrun

/-- A push stores at the stack address of S and takes S down (R102). -/
theorem pushes_of_meaning {v : Cpu → Byte} (hm : meaningOf i = .effect (.pushes v)) :
    Does i s fun u => { u with
      cpu := { u.cpu with s := u.cpu.s - 1 }
      bus := { u.bus with ram := u.bus.ram.write (stackIndex u.cpu.s) (v u.cpu) } } :=
  exec_of_effect hm rfl

/-- A pull takes S up and gives the byte there to the CPU (R102). -/
theorem pulls_of_meaning {f : Byte → Cpu → Cpu} {eff : Cpu → Cpu} (hm : meaningOf i = .effect (.pulls f))
    (heff : ∀ c : Cpu,
      f ((preOf i s).bus.ram.read (stackIndex (c.s + 1))) { c with s := c.s + 1 } = eff c) :
    Sets i s eff := by
  have hrun : (Effect.pulls f).run (recOf i s) (preOf i s) =
      .ok { preOf i s with cpu := eff (preOf i s).cpu } := by
    rw [← heff]
    rfl
  exact exec_of_effect hm hrun

end Shapes

/-! ### One bit of P cleared or set (R110) -/

theorem setBit_false (n : Nat) (p : Byte) : setBit n false p = p &&& ~~~((1 : Byte) <<< n) :=
  BitVec.or_zero

theorem setBit_true (n : Nat) (p : Byte) : setBit n true p = p ||| flagByte true n := by
  ext k hk
  by_cases h : k = n
  · simp [setBit, flagByte_getElem, h]
  · simp [setBit_getElem_ne h, flagByte_getElem, Ne.symm h]

/-- A flag instruction that clears bit `n` of P. -/
theorem clearsBit_of_meaning {i : Instr} {s : State} {f : Cpu → Cpu} (n : Nat)
    (hm : meaningOf i = .effect (.onCpu f)) (hf : ∀ c, f c = { c with p := setBit n false c.p }) :
    Sets i s fun c => { c with p := c.p &&& ~~~((1 : Byte) <<< n) } :=
  sets_of_meaning hm fun c => by rw [hf, setBit_false]

/-- A flag instruction that sets bit `n` of P. -/
theorem setsBit_of_meaning {i : Instr} {s : State} {f : Cpu → Cpu} (n : Nat)
    (hm : meaningOf i = .effect (.onCpu f)) (hf : ∀ c, f c = { c with p := setBit n true c.p }) :
    Sets i s fun c => { c with p := c.p ||| flagByte true n } :=
  sets_of_meaning hm fun c => by rw [hf, setBit_true]

/-! ### The statements -/

/-- Settles O27: each of the five reads, and `setNZ` is `withNZ` on P. -/
theorem loadsComplete : Obligations.LoadsComplete := by
  refine ⟨fun f s => ?lda, fun f s => ?ldx, fun f s => ?ldy, fun f s => ?lax, fun a s => ?las⟩
  case lda | ldx | ldy | lax => exact readsThen_of_meaning rfl fun v _ => set_nz_eq v _
  case las => exact readsThen_of_meaning rfl (fun m c => set_nz_eq (m &&& c.s) _) rfl

/-- Settles O31: each of the four stores a byte the CPU gives. -/
theorem storesComplete : Obligations.StoresComplete :=
  ⟨fun _ _ => stores_of_meaning (v := Cpu.a) rfl rfl, fun _ _ => stores_of_meaning (v := Cpu.x) rfl rfl,
    fun _ _ => stores_of_meaning (v := Cpu.y) rfl rfl,
    fun _ _ => stores_of_meaning (v := fun c => c.a &&& c.x) rfl rfl⟩

/-- Settles O34: each works on the CPU alone; the transfers and index steps put N and Z, the flag
instructions one bit of P. -/
theorem impliedInstructionsComplete : Obligations.ImpliedInstructionsComplete := by
  intro s
  refine ⟨?tax, ?tay, ?txa, ?tya, ?tsx, ?txs, ?inx, ?iny, ?dex, ?dey, ?clc, ?sec, ?cli, ?sei, ?cld, ?sed,
    ?clv, ?nop⟩
  case tax | tay | txa | tya | tsx | inx | iny | dex | dey =>
    exact sets_of_meaning rfl fun _ => set_nz_eq _ _
  case txs | nop => exact sets_of_meaning rfl fun _ => rfl
  case clc => exact clearsBit_of_meaning 0 rfl fun _ => rfl
  case cli => exact clearsBit_of_meaning 2 rfl fun _ => rfl
  case cld => exact clearsBit_of_meaning 3 rfl fun _ => rfl
  case clv => exact clearsBit_of_meaning 6 rfl fun _ => rfl
  case sec => exact setsBit_of_meaning 0 rfl fun _ => rfl
  case sei => exact setsBit_of_meaning 2 rfl fun _ => rfl
  case sed => exact setsBit_of_meaning 3 rfl fun _ => rfl

/-- Settles O35: two push, two pull; PLA puts N and Z, PLP the pulled P. -/
theorem stackInstructionsComplete : Obligations.StackInstructionsComplete := by
  intro s
  refine ⟨?pha, ?php, ?pla, ?plp⟩
  case pha => exact pushes_of_meaning (v := Cpu.a) rfl
  case php => exact pushes_of_meaning (v := fun c => statusPushed c.p) rfl
  case pla => exact pulls_of_meaning rfl fun _ => set_nz_eq _ _
  case plp => exact pulls_of_meaning rfl fun _ => rfl

end Sys2Proof.Machine

/-! ## 42_arith_logic.md: sums, differences, compares, logic and shifts (R600 to R643, R812 to R817) -/

namespace Sys2Proof.Machine

/-! ### N, V, Z and C put one after the other, as the masks of Safety.lean (R110) -/

theorem setBit_getElem (n : Nat) (b : Bool) (p : Byte) {k : Nat} (hk : k < 8) :
    (setBit n b p)[k] = if k = n then b else p[k] := by
  by_cases h : k = n
  · subst h
    simp [setBit, flagByte_getElem]
  · rw [if_neg h, setBit_getElem_ne h]

theorem setBit_comm {m n : Nat} (h : m ≠ n) (b d : Bool) (p : Byte) :
    setBit m b (setBit n d p) = setBit n d (setBit m b p) := by
  ext k hk
  by_cases hm : k = m
  · simp [setBit_getElem, hm, h]
  · simp [setBit_getElem, hm]

theorem withNZ_eq_setBit (v p : Byte) :
    withNZ v p = setBit 1 (v == 0) (setBit 7 (v.getLsbD 7) p) :=
  (set_nz_p v { Cpu.powerUp with p := p }).symm

theorem withNZC_eq_setBit (v : Byte) (c : Bool) (p : Byte) : withNZC v c p = setBit 0 c (withNZ v p) := by
  cases c <;> rfl

theorem withNVZC_eq_setBit (v : Byte) (o c : Bool) (p : Byte) :
    withNVZC v o c p = setBit 6 o (withNZC v c p) := by
  cases o <;> rfl

/-- C may be put before N and Z. -/
theorem withNZ_setBit_carry (v : Byte) (c : Bool) (p : Byte) : withNZ v (setBit 0 c p) = withNZC v c p := by
  simp only [withNZC_eq_setBit, withNZ_eq_setBit, setBit_comm (m := 0) (n := 1) (by decide),
    setBit_comm (m := 0) (n := 7) (by decide)]

/-- V may be put before N, Z and C. -/
theorem withNZC_setBit_overflow (v : Byte) (o c : Bool) (p : Byte) :
    withNZC v c (setBit 6 o p) = withNVZC v o c p := by
  simp only [withNVZC_eq_setBit, withNZC_eq_setBit, withNZ_eq_setBit,
    setBit_comm (m := 6) (n := 0) (by decide), setBit_comm (m := 6) (n := 1) (by decide),
    setBit_comm (m := 6) (n := 7) (by decide)]

theorem setNZ_setC (v : Byte) (b : Bool) (c : Cpu) :
    setNZ v (setC b c) = { c with p := withNZC v b c.p } := by
  rw [set_nz_eq, setC_p, withNZ_setBit_carry, setC]

/-! ### The rules of R600 -/

theorem compare_eq_afterCompare (r m : Byte) (c : Cpu) : compare r m c = afterCompare r m c :=
  setNZ_setC _ _ _

/-- The sum's sign differs from both terms' exactly where the signed sum leaves -128..127. -/
theorem add_overflow_eq (a m : Byte) (b : Bool) :
    ((a ^^^ BitVec.ofNat 8 (a.toNat + m.toNat + b.toNat)) &&&
        (m ^^^ BitVec.ofNat 8 (a.toNat + m.toNat + b.toNat))).getLsbD 7 =
      (decide (a.toInt + m.toInt + b.toNat < -128) || decide (127 < a.toInt + m.toInt + b.toNat)) := by
  have hsign : ∀ v : Byte, v.getLsbD 7 = decide (128 ≤ v.toNat) := fun v => BitVec.msb_eq_decide v
  have ha := a.isLt
  have hm := m.isLt
  have hb := b.toNat_le
  rw [BitVec.getLsbD_and, BitVec.getLsbD_xor, BitVec.getLsbD_xor, hsign, hsign, hsign, BitVec.toNat_ofNat,
    BitVec.toInt_eq_toNat_cond, BitVec.toInt_eq_toNat_cond, Bool.eq_iff_iff]
  simp only [Bool.and_eq_true, Bool.or_eq_true, bne_iff_ne, ne_eq, decide_eq_decide, decide_eq_true_eq]
  omega

theorem addC_eq_afterAdd (m : Byte) (c : Cpu) : addC m c = afterAdd m c := by
  simp only [addC, addExact, add_overflow_eq, afterAdd, ← withNZC_setBit_overflow]
  exact setNZ_setC _ _ { setV _ c with a := _ }

/-- The complement of `m` has value 255 - m, and -m - 1 as a signed number. -/
theorem xor_ff_toNat_toInt (m : Byte) :
    (m ^^^ 0xFF).toNat = 255 - m.toNat ∧ (m ^^^ 0xFF).toInt = -m.toInt - 1 := by
  revert m; decide +kernel

/-- Subtracting is adding the complement: the exact sum is 256 over the exact difference. -/
theorem afterAdd_complement (m : Byte) (c : Cpu) : afterAdd (m ^^^ 0xFF) c = afterSub m c := by
  obtain ⟨hnat, hint⟩ := xor_ff_toNat_toInt m
  have hm := m.isLt
  have hbyte : BitVec.ofNat 8 (c.a.toNat + (m ^^^ 0xFF).toNat + c.flagC.toNat) =
      BitVec.ofInt 8 (c.a.toNat - m.toNat - (1 - c.flagC.toNat)) :=
    BitVec.eq_of_toNat_eq (by rw [BitVec.toNat_ofNat, BitVec.toNat_ofInt]; omega)
  have hcarry : 255 < c.a.toNat + (m ^^^ 0xFF).toNat + c.flagC.toNat ↔
      (0 : Int) ≤ c.a.toNat - m.toNat - (1 - c.flagC.toNat) := by omega
  have hsigned : c.a.toInt + (m ^^^ 0xFF).toInt + c.flagC.toNat =
      c.a.toInt - m.toInt - (1 - c.flagC.toNat) := by omega
  simp only [afterAdd, afterSub, hbyte, hcarry, hsigned]

theorem subC_eq_afterSub (m : Byte) (c : Cpu) : subC m c = afterSub m c :=
  (addC_eq_afterAdd _ c).trans (afterAdd_complement m c)

/-! ### BIT (R615) -/

theorem and_c0 (m : Byte) : m &&& 0xC0 = flagByte (m.getLsbD 7) 7 ||| flagByte (m.getLsbD 6) 6 := by
  revert m; decide +kernel

theorem setBit_nvz_masks (n o z : Bool) (p : Byte) :
    setBit 6 o (setBit 7 n (setBit 1 z p)) =
      (p &&& 0x3D) ||| (flagByte n 7 ||| flagByte o 6) ||| flagByte z 1 := by
  revert n o z p; decide +kernel

theorem bit_status_eq (a m p : Byte) :
    setBit 6 (m.getLsbD 6) (setBit 7 (m.getLsbD 7) (setBit 1 (a &&& m == 0) p)) =
      (p &&& 0x3D) ||| (m &&& 0xC0) ||| (if a &&& m = 0 then 0x02 else 0x00) := by
  rw [setBit_nvz_masks, ← and_c0]
  by_cases h : a &&& m = 0 <;> simp [flagByte, h]

/-! ### Shifts and rotates, with the bit shifted out (R640 to R643) -/

theorem rotateLeft_eq_setC (m : Byte) (c : Cpu) :
    rotateLeft m c = ((m <<< 1) ||| (c.p &&& 1), setC (m.getLsbD 7) c) := by
  rw [rotateLeft, Cpu.flagC, (flagByte_bit0 c.p).1]

theorem rotateRight_eq_setC (m : Byte) (c : Cpu) :
    rotateRight m c = ((m >>> 1) ||| ((c.p &&& 1) <<< 7), setC (m.getLsbD 0) c) := by
  rw [rotateRight, Cpu.flagC, (flagByte_bit0 c.p).2]

/-! ### One rule per operand of a read-modify-write (R405) -/

theorem mode_ne_acc {f : Form} (h : f ≠ .acc) : f.mode ≠ .acc := by
  cases f with
  | acc => exact absurd rfl h
  | _ => exact Mode.noConfusion

theorem form_ne_acc_of_modes {ms : List Mode} {f : Form} (h : ms.contains f.mode = true)
    (hms : ms.contains .acc = false) : f ≠ .acc := by
  rintro rfl
  exact Bool.false_ne_true (hms.symm.trans h)

theorem isStore_of_modifies {i : Instr} {g : Byte → Cpu → Byte × Cpu} {k : Byte → Cpu → Cpu}
    (hm : meaningOf i = .effect (.modifies g k)) : isStore i = false := by
  cases i with
  | sta f | stx f | sty f | sax f => cases hm
  | _ => rfl

section Shapes

variable {i : Instr} {s : State}

/-- A read-modify-write of an address: one read, and the write ends well where it reaches no read-only
storage (R214). -/
theorem modifies_of_meaning {g : Byte → Cpu → Byte × Cpu} {k : Byte → Cpu → Cpu} {f : Byte → Cpu → Byte}
    {flags eff : Byte → Cpu → Cpu} (hm : meaningOf i = .effect (.modifies g k))
    (hg : ∀ m c, g m c = (f m c, flags m c)) (hk : ∀ r c, k r c = eff r c) (hacc : i.form ≠ .acc)
    (hw : i.wellFormed = true) (hf : recordFits i s = true) (hallowed : writeAllowed i s = true) :
    Modifies i s f flags eff := by
  have haddr : isAddressForm i.form = true := by
    simpa [Effect.allows, mode_ne_acc hacc] using effect_allows hw hm
  obtain ⟨a, ha⟩ := fits_address haddr (rec_of_fits i s hf)
  obtain ⟨m, u, hread⟩ : ∃ m u, memRead a (preOf i s) = (m, u) := ⟨_, _, rfl⟩
  have hstorable : storable a u = true := by
    simpa only [writeAllowed, ha, storeState_modify (isStore_of_modifies hm) ha, hread] using hallowed
  obtain ⟨t, ht⟩ := (memWrite_storable a (f m u.cpu) { u with cpu := flags m u.cpu }).1 hstorable
  have hrun : (Effect.modifies g k).run (recOf i s) (preOf i s) =
      .ok { t with cpu := eff (f m u.cpu) t.cpu } := by
    simp only [Effect.run, rmwEffect, ha, rmw, hread, hg, ht, mapCpu, hk]
  exact ⟨a, m, u, t, ha, hread, ht, exec_of_effect hm hrun⟩

/-- A shift or rotate of A: the result to A, C the bit shifted out, N and Z of the result. -/
theorem shiftsA_of_meaning {g : Byte → Cpu → Byte × Cpu} (f : Byte → Cpu → Byte) (out : Byte → Bool)
    (hm : meaningOf i = .effect (.modifies g setNZ)) (hg : ∀ m c, g m c = (f m c, setC (out m) c))
    (hacc : i.form.mode = .acc) (hf : recordFits i s = true) :
    Sets i s fun c => { c with a := f c.a c, p := withNZC (f c.a c) (out c.a) c.p } := by
  have ho := fits_acc hacc (rec_of_fits i s hf)
  have hflags : ∀ (v : Byte) (b : Bool) (c : Cpu),
      setNZ v { setC b c with a := v } = { c with a := v, p := withNZC v b c.p } :=
    fun v b c => setNZ_setC v b { c with a := v }
  refine exec_of_effect hm ?_
  simp only [Effect.run, rmwEffect, ho, rmw, hg, mapCpu, hflags]

end Shapes

/-! ### The statements -/

/-- Settles O28: each reads, and `AddC` and `SubC` are the exact sum and difference. -/
theorem arithmeticCompletes : Obligations.ArithmeticCompletes :=
  ⟨fun _ _ => readsThen_of_meaning rfl addC_eq_afterAdd, fun _ _ => readsThen_of_meaning rfl subC_eq_afterSub,
    fun _ _ => readsThen_of_meaning rfl subC_eq_afterSub rfl⟩

/-- Settles O29: each reads; the logic puts N and Z of A, the compares those of the difference and C, BIT
two bits of the byte read. -/
theorem logicAndComparesComplete : Obligations.LogicAndComparesComplete := by
  refine ⟨fun f s => ?and, fun f s => ?ora, fun f s => ?eor, fun f s => ?bit, fun f s => ?cmp,
    fun f s => ?cpx, fun f s => ?cpy⟩
  case and | ora | eor => exact readsThen_of_meaning rfl fun _ _ => set_nz_eq _ _
  case bit =>
    exact readsThen_of_meaning rfl fun m c => congrArg (fun p => { c with p := p }) (bit_status_eq c.a m c.p)
  case cmp | cpx | cpy => exact readsThen_of_meaning rfl fun _ _ => compare_eq_afterCompare _ _ _

/-- Settles O32: a shift works on A or on the byte at its address, as its record's operand says. -/
theorem shiftsComplete : Obligations.ShiftsComplete := by
  refine ⟨fun s => ?aslA, fun s => ?lsrA, fun s => ?rolA, fun s => ?rorA, fun f s hw hacc => ?asl,
    fun f s hw hacc => ?lsr, fun f s hw hacc => ?rol, fun f s hw hacc => ?ror⟩
  case aslA => exact shiftsA_of_meaning (fun m _ => m <<< 1) (·.getLsbD 7) rfl (fun _ _ => rfl) rfl
  case lsrA => exact shiftsA_of_meaning (fun m _ => m >>> 1) (·.getLsbD 0) rfl (fun _ _ => rfl) rfl
  case rolA => exact shiftsA_of_meaning _ _ rfl rotateLeft_eq_setC rfl
  case rorA => exact shiftsA_of_meaning _ _ rfl rotateRight_eq_setC rfl
  case asl => exact modifies_of_meaning rfl shiftLeft_eq set_nz_eq hacc hw
  case lsr => exact modifies_of_meaning rfl shiftRight_eq set_nz_eq hacc hw
  case rol => exact modifies_of_meaning rfl rotateLeft_eq set_nz_eq hacc hw
  case ror => exact modifies_of_meaning rfl rotateRight_eq set_nz_eq hacc hw

/-- Settles O33: no form of the eight is A, so each works on the byte at its address, and then on the CPU by
its own rule. -/
theorem memoryRmwCompletes : Obligations.MemoryRmwCompletes := by
  refine ⟨fun f s hw => ?inc, fun f s hw => ?dec, fun f s hw => ?dcp, fun f s hw => ?isc,
    fun f s hw => ?slo, fun f s hw => ?rla, fun f s hw => ?sre, fun f s hw => ?rra⟩ <;>
    have hacc : f ≠ .acc := form_ne_acc_of_modes hw rfl
  case inc | dec => exact modifies_of_meaning rfl (fun _ _ => rfl) set_nz_eq hacc hw
  case dcp =>
    exact modifies_of_meaning rfl (fun _ _ => rfl) (fun _ _ => compare_eq_afterCompare _ _ _) hacc hw
  case isc => exact modifies_of_meaning rfl (fun _ _ => rfl) subC_eq_afterSub hacc hw
  case slo => exact modifies_of_meaning rfl shiftLeft_eq (fun _ _ => set_nz_eq _ _) hacc hw
  case rla => exact modifies_of_meaning rfl rotateLeft_eq (fun _ _ => set_nz_eq _ _) hacc hw
  case sre => exact modifies_of_meaning rfl shiftRight_eq (fun _ _ => set_nz_eq _ _) hacc hw
  case rra => exact modifies_of_meaning rfl rotateRight_eq addC_eq_afterAdd hacc hw

end Sys2Proof.Machine

/-! ## 43_control_flags.md: jumps, subroutines, BRK, RTI and the branches (R701 to R717) -/

namespace Sys2Proof.Machine

/-! ### One rule for the shape of a jump (R404) -/

/-- An instruction that sets PC completes with the PC and the state its effect gives. -/
theorem exec_of_jump {i : Instr} {s u : State} {e : Inflight → State → Word × State} {pc : Word}
    (hm : meaningOf i = .jump e) (h : e (recOf i s) (preOf i s) = (pc, u)) :
    exec i s = .next (endsAt pc u) := by
  rw [exec_eq_run, hm, Meaning.run, run_jump_eq, h]

theorem targetOf_address {r : Inflight} {ea : Word} (h : r.operand = .address ea) : targetOf r = ea := by
  rw [targetOf, h]

theorem targetOf_relative {r : Inflight} {target : Word} (h : r.operand = .relative target) :
    targetOf r = target := by
  rw [targetOf, h]

/-- Fetched at a boundary, an absolute form's record holds the operand word (R410). -/
theorem recOf_abs {i : Instr} {a : Word} {s : State} (hform : i.form = .abs a)
    (hidle : s.cpu.inflight = none) : (recOf i s).operand = .address a := by
  rw [recOf, record_of_none i s hidle, newRecord, hform]
  rfl

/-! ### The stack, several bytes at a time (R102, R220) -/

theorem stackIndex_ne_of_lt {sp : Byte} {k : Nat} (hk : k < 255) :
    stackIndex sp ≠ stackIndex (sp - 1 - BitVec.ofNat 8 k) := by
  have hsp := sp.isLt
  simp only [stackIndex, BitVec.toNat_sub, BitVec.ofNat_eq_ofNat, BitVec.toNat_ofNat]
  omega

/-- Memories that agree at an index agree there after the same pushes. -/
theorem pushedRam_read_congr {sp : Byte} {bs : List Byte} {m m' : Mem} {n : Nat}
    (h : m.read n = m'.read n) : (pushedRam sp bs m).read n = (pushedRam sp bs m').read n := by
  induction bs generalizing sp m m' with
  | nil => exact h
  | cons b bs ih => exact ih (by rw [mem_read_write, mem_read_write, h])

/-- Up to 255 later pushes do not come round to the first byte. -/
theorem pushedRam_read_cons {sp b : Byte} {bs : List Byte} {m : Mem} (n : Nat) (hlen : bs.length ≤ 255) :
    (pushedRam sp (b :: bs) m).read n =
      if n = stackIndex sp then b else (pushedRam (sp - 1) bs m).read n := by
  rw [pushedRam]
  split
  case isTrue h =>
    subst h
    rw [pushedRam_read_other fun k hk => stackIndex_ne_of_lt (by omega), mem_read_write_same]
  case isFalse h => exact pushedRam_read_congr (mem_read_write_other _ _ _ _ h)

theorem pushWord_eq (w : Word) (s : State) :
    pushWord w s = { s with
      cpu := { s.cpu with s := s.cpu.s - 2 }
      bus := { s.bus with ram := pushedRam s.cpu.s [highByte w, lowByte w] s.bus.ram } } := by
  have hs : s.cpu.s - 1 - 1 = s.cpu.s - 2 := BitVec.sub_sub _ _ _
  rw [← hs]
  rfl

theorem pushWord_read (w : Word) (s : State) (n : Nat) :
    (pushWord w s).bus.ram.read n =
      if n = 0x100 + s.cpu.s.toNat then highByte w
      else if n = 0x100 + (s.cpu.s - 1).toNat then lowByte w
      else s.bus.ram.read n := by
  rw [pushWord_eq, pushedRam_read_cons n (by simp), pushedRam_read_cons n (by simp)]
  rfl

theorem pullWord_eq (s : State) :
    pullWord s =
      (word16 (s.bus.ram.read (0x100 + (s.cpu.s + 1).toNat)) (s.bus.ram.read (0x100 + (s.cpu.s + 2).toNat)),
        { s with cpu := { s.cpu with s := s.cpu.s + 2 } }) := by
  have hs : s.cpu.s + 1 + 1 = s.cpu.s + 2 := BitVec.add_assoc _ _ _
  rw [← hs]
  rfl

/-! ### Taking an interrupt and returning from one (R705, R706, R911, R912, R915) -/

/-- A vector in cartridge space is read from the cartridge, and the read changes nothing (R202, R210). -/
theorem read16_cart {vec : Word} (hlo : 0x6000 ≤ vec.toNat) (hhi : vec.toNat < 0xFFFF) (s : State) :
    read16 vec s = (word16 (s.cart.cpuRead vec.toNat) (s.cart.cpuRead (vec.toNat + 1)), s) := by
  have hnext : (vec + 1).toNat = vec.toNat + 1 := by bv_omega
  simp only [read16, mem_read_cart vec s hlo, mem_read_cart (vec + 1) s (by omega), hnext]

theorem takeInterrupt_eq (ret : Word) (image : Byte) {vec : Word} (hlo : 0x6000 ≤ vec.toNat)
    (hhi : vec.toNat < 0xFFFF) (s : State) :
    takeInterrupt ret image vec s =
      (word16 (s.cart.cpuRead vec.toNat) (s.cart.cpuRead (vec.toNat + 1)),
        { s with
          cpu := { s.cpu with s := s.cpu.s - 3, p := s.cpu.p ||| 0x04 }
          bus := { s.bus with ram := pushedRam s.cpu.s [highByte ret, lowByte ret, image] s.bus.ram } }) := by
  have hs : s.cpu.s - 1 - 1 - 1 = s.cpu.s - 3 := by rw [BitVec.sub_sub, BitVec.sub_sub]; rfl
  have hp : setBit 2 true s.cpu.p = s.cpu.p ||| 0x04 := setBit_true 2 _
  rw [takeInterrupt, read16_cart hlo hhi, ← hs, ← hp]
  rfl

/-- An interrupt taken and completed is entered as R706, R911 and R914 say. -/
theorem takeInterrupt_enters (ret : Word) (image : Byte) {vec : Word} (hlo : 0x6000 ≤ vec.toNat)
    (hhi : vec.toNat < 0xFFFF) (s : State) :
    EntersInterrupt ret image vec s
      (endsAt (takeInterrupt ret image vec s).1 (takeInterrupt ret image vec s).2) := by
  rw [takeInterrupt_eq ret image hlo hhi]
  refine ⟨rfl, fun n => ?_⟩
  have hs : s.cpu.s - 1 - 1 = s.cpu.s - 2 := BitVec.sub_sub _ _ _
  rw [endsAt_bus, pushedRam_read_cons n (by simp), pushedRam_read_cons n (by simp),
    pushedRam_read_cons n (by simp), hs]
  rfl

theorem irqVectorOf_range (hijacked : Bool) :
    0x6000 ≤ (irqVectorOf hijacked).toNat ∧ (irqVectorOf hijacked).toNat < 0xFFFF := by
  cases hijacked <;> decide

theorem returnFromInterrupt_eq (s : State) :
    returnFromInterrupt s =
      (word16 (s.bus.ram.read (0x100 + (s.cpu.s + 2).toNat)) (s.bus.ram.read (0x100 + (s.cpu.s + 3).toNat)),
        { s with cpu := { s.cpu with
          s := s.cpu.s + 3
          p := (s.bus.ram.read (0x100 + (s.cpu.s + 1).toNat) &&& 0xCF) ||| 0x20 } }) := by
  have h2 : s.cpu.s + 1 + 1 = s.cpu.s + 2 := BitVec.add_assoc _ _ _
  have h3 : s.cpu.s + 1 + 2 = s.cpu.s + 3 := BitVec.add_assoc _ _ _
  simp only [returnFromInterrupt, pullWord_eq, ← h2, ← h3]
  rfl

/-! ### Branches (R709) -/

/-- Instruction `i` is a branch by `d`. -/
structure Branches (i : Instr) (d : Byte) : Prop where
  meaning : meaningOf i = .jump (branchEffect i)
  form : i.form = .rel d

theorem branches_of_mem {d : Byte} {i : Instr}
    (h : i ∈ [Instr.bpl d, .bmi d, .bvc d, .bvs d, .bcc d, .bcs d, .bne d, .beq d]) : Branches i d := by
  simp only [List.mem_cons, List.not_mem_nil, or_false] at h
  rcases h with rfl | rfl | rfl | rfl | rfl | rfl | rfl | rfl <;> exact ⟨rfl, rfl⟩

section Branch

variable {i : Instr} {d : Byte} {s : State}

theorem Branches.nextPc_eq (h : Branches i d) (r : Inflight) : nextPc i r = r.pc0 + 2 := by
  rw [nextPc, Instr.length, h.form]
  rfl

/-- A branch goes to its record's target if the record says taken, and past itself if not. -/
theorem Branches.exec_eq {target : Word} (h : Branches i d) (ho : (recOf i s).operand = .relative target) :
    exec i s = .next (endsAt (if (recOf i s).taken then target else (recOf i s).pc0 + 2) (preOf i s)) :=
  exec_of_jump h.meaning (by rw [branchEffect, targetOf_relative ho, h.nextPc_eq])

theorem Branches.operand_relative (h : Branches i d) (hf : recordFits i s = true) :
    ∃ target, (recOf i s).operand = .relative target := by
  have hfits := rec_of_fits i s hf
  rw [h.form] at hfits
  cases ho : (recOf i s).operand with
  | relative target => exact ⟨target, rfl⟩
  | _ => rw [ho] at hfits; cases hfits

/-- Fetched at a boundary, a branch is taken when its condition holds (R419, R709). -/
theorem Branches.exec_idle (h : Branches i d) (hidle : s.cpu.inflight = none) :
    exec i s = .next (endsAt
      (if branchCond i s.cpu then BitVec.ofInt 16 (s.cpu.pc.toNat + 2 + d.toInt) else s.cpu.pc + 2) s) := by
  have hnew : newRecord i s = ((newRecord i s).1, s) := by rw [newRecord, h.form]; rfl
  have hrec : recOf i s = (newRecord i s).1 := by rw [recOf, record_of_none i s hidle]
  have hpre : preOf i s = s := by rw [preOf, record_of_none i s hidle, hnew]
  have ho : (recOf i s).operand = .relative (s.cpu.pc + 2 + sext16 d) := by
    rw [hrec, newRecord, h.form]
    rfl
  rw [h.exec_eq ho, hpre, hrec, branch_target_eq]
  rfl

/-- A branch on a flag that is 1. -/
theorem Branches.exec_idle_set {flag : Bool} (h : Branches i d) (hidle : s.cpu.inflight = none)
    (hc : branchCond i s.cpu = flag) :
    exec i s = .next (endsAt
      (if flag then BitVec.ofInt 16 (s.cpu.pc.toNat + 2 + d.toInt) else s.cpu.pc + 2) s) :=
  hc ▸ h.exec_idle hidle

/-- A branch on a flag that is 0. -/
theorem Branches.exec_idle_clear {flag : Bool} (h : Branches i d) (hidle : s.cpu.inflight = none)
    (hc : branchCond i s.cpu = !flag) :
    exec i s = .next (endsAt
      (if flag then s.cpu.pc + 2 else BitVec.ofInt 16 (s.cpu.pc.toNat + 2 + d.toInt)) s) := by
  rw [h.exec_idle hidle, hc]
  cases flag <;> rfl

end Branch

/-! ### The statements -/

/-- Settles O36: a jump's address is its record's operand; JSR pushes a word, RTS pulls one. -/
theorem jumpsComplete : Obligations.JumpsComplete := by
  refine ⟨fun f s hw hf => ?jmp, fun a s hf => ?jsr, fun a s hidle => ?operands, fun s => ?rts⟩
  case jmp =>
    have haddr : isAddressForm f = true := by
      cases f with
      | abs a | ind a => rfl
      | _ => cases hw
    obtain ⟨ea, ho⟩ := fits_address haddr (rec_of_fits (.jmp f) s hf)
    exact ⟨ea, ho, exec_of_jump rfl (by rw [targetOf_address ho])⟩
  case jsr =>
    intro u ret
    obtain ⟨ea, ho⟩ := fits_address rfl (rec_of_fits (.jsr a) s hf)
    refine ⟨ea, pushWord ret u, ho, exec_of_jump rfl (by rw [targetOf_address ho]), ?_, pushWord_read ret u⟩
    rw [pushWord_eq]
  case operands => exact ⟨recOf_abs rfl hidle, recOf_abs rfl hidle⟩
  case rts => exact exec_of_jump rfl (by rw [pullWord_eq])

/-- Settles O37: BRK takes an interrupt, RTI returns from one. -/
theorem brkAndRtiComplete : Obligations.BrkAndRtiComplete := by
  refine fun s => ⟨?brk, ?rti⟩
  case brk =>
    obtain ⟨hlo, hhi⟩ := irqVectorOf_range (recOf .brk s).hijacked
    exact ⟨_, exec_of_jump rfl rfl, takeInterrupt_enters _ _ hlo hhi (preOf .brk s)⟩
  case rti => exact exec_of_jump rfl (returnFromInterrupt_eq (preOf .rti s))

/-- Settles O38: a branch's record holds its target; made at a boundary, it says taken when the flag does. -/
theorem branchesComplete : Obligations.BranchesComplete := by
  refine fun d s i hi => ⟨fun hf => ?record, fun hidle => ⟨?bpl, ?bmi, ?bvc, ?bvs, ?bcc, ?bcs, ?bne, ?beq⟩⟩
  case record =>
    obtain ⟨target, ho⟩ := (branches_of_mem hi).operand_relative hf
    exact ⟨target, ho, (branches_of_mem hi).exec_eq ho⟩
  case bpl | bvc | bcc | bne => exact Branches.exec_idle_clear ⟨rfl, rfl⟩ hidle rfl
  case bmi | bvs | bcs | beq => exact Branches.exec_idle_set ⟨rfl, rfl⟩ hidle rfl

end Sys2Proof.Machine

/-! ## 44_illegal.md: the immediate unofficial opcodes, the NOPs, set U and JAM (R820 to R860) -/

namespace Sys2Proof.Machine

/-! ### C, and V, put after N and Z (R830, R832) -/

theorem setC_setNZ (v : Byte) (b : Bool) (c : Cpu) :
    setC b (setNZ v c) = { c with p := withNZC v b c.p } := by
  rw [set_nz_eq, setC, withNZC_eq_setBit]

theorem setV_setC_setNZ (v : Byte) (o b : Bool) (c : Cpu) :
    setV o (setC b (setNZ v c)) = { c with p := withNVZC v o b c.p } := by
  rw [setC_setNZ, setV, withNVZC_eq_setBit]

/-- The old C comes in at bit 7 of the result, which gives N, V, Z and C (R832). -/
theorem arrCpu_eq (t : Byte) (c : Cpu) :
    arrCpu t c =
      let r := (t >>> 1) ||| ((c.p &&& 1) <<< 7)
      { c with a := r, p := withNVZC r (r.getLsbD 6 ^^ r.getLsbD 5) (r.getLsbD 6) c.p } := by
  rw [arrCpu, Cpu.flagC, (flagByte_bit0 c.p).2]
  exact setV_setC_setNZ _ _ _ { c with a := _ }

/-! ### An instruction that only looks at its operand (R820) -/

/-- A form that resolves to no address has none in its record. -/
theorem fits_no_address {f : Form} {o : Operand} (hf : isAddressForm f = false)
    (ho : operandFits f o = true) (ea : Word) : o ≠ .address ea := by
  rintro rfl
  cases f with
  | imp | acc | imm b | rel d => cases ho
  | _ => cases hf

section Looks

variable {i : Instr} {s : State}

theorem looks_at_address {ea : Word} (hm : meaningOf i = .effect .looks)
    (ho : (recOf i s).operand = .address ea) : Does i s fun u => (memRead ea u).2 :=
  exec_of_effect hm (by simp only [Effect.run, nopEffect, ho])

theorem looks_at_nothing (hm : meaningOf i = .effect .looks)
    (ho : ∀ ea, (recOf i s).operand ≠ .address ea) : Does i s fun u => u := by
  refine exec_of_effect hm ?_
  cases h : (recOf i s).operand with
  | address ea => exact absurd h (ho ea)
  | _ => simp only [Effect.run, nopEffect, h]

end Looks

/-! ### Refused opcodes (R840 to R845) -/

theorem exec_of_refused {i : Instr} {op : Byte} (hm : meaningOf i = .refused op) (s : State) :
    exec i s = .refused (refuse (.unstableOpcode op) s) := by
  rw [exec_eq_run, hm, Meaning.run]

/-! ### The statements -/

/-- Settles O30: each reads its byte; ANC and ARR put C after N and Z, ALR and SBX before. -/
theorem immediateUnofficialCompletes : Obligations.ImmediateUnofficialCompletes := by
  refine ⟨fun op b s => ?anc, fun b s => ?alr, fun b s => ?arr, fun b s => ?sbx⟩
  case anc => exact readsThen_of_meaning rfl fun _ _ => setC_setNZ _ _ _
  case alr => exact readsThen_of_meaning rfl (fun _ c => setNZ_setC _ _ { c with a := _ }) rfl
  case arr => exact readsThen_of_meaning rfl (fun m c => arrCpu_eq (c.a &&& m) c) rfl
  case sbx => exact readsThen_of_meaning rfl (fun _ c => setNZ_setC _ _ { c with x := _ }) rfl

/-- Settles O39: an unofficial NOP looks at its record's operand, an address or not; the record of an IMP or
IMM form has none. -/
theorem unofficialNopsComplete : Obligations.UnofficialNopsComplete := by
  refine fun op f s _ hfits =>
    ⟨fun ea => looks_at_address rfl, looks_at_nothing rfl, fun hmode => ?_⟩
  have hform : isAddressForm f = false := by
    cases f with
    | imp | imm b => rfl
    | _ => rcases hmode with h | h <;> cases h
  exact fits_no_address hform (rec_of_fits (.nopAlt op f) s hfits)

/-- Settles O40: JAM's jump is to its own opcode. -/
theorem jamHalts : Obligations.JamHalts := exec_jam

/-- Settles O41: at the fetch by the opcode's row, at completion by the instruction's meaning. -/
theorem unstableOpcodesRefused : Obligations.UnstableOpcodesRefused := by
  refine ⟨fun s hs hop => ?fetch, fun s b z a => ⟨?xaa, ?lxa, ?shaIzy, ?shaAby, ?shx, ?shy, ?tas⟩⟩
  case fetch =>
    rw [fetch_instr hs]
    exact fetchInstr_unstable (unstable_row hop)
  case xaa | lxa | shaIzy | shaAby | shx | shy | tas => exact exec_of_refused rfl s

end Sys2Proof.Machine

/-! ## 60_exceptions.md: the start and the effect of the NMI and IRQ sequences, and the edge detector
(R401, R442, R903, R910, R911, R914, R1090) -/

namespace Sys2Proof.Machine

/-! ### The start of a sequence (R401, R442, R910) -/

theorem fetch_recorded {s : State} {q : Interrupt} (h : s.cpu.intReq = some q) :
    fetch s = .next (startSequence q.sequence (mapCpu (fun c => { c with intReq := none }) s)) := by
  rw [fetch, h]

/-- Only the start of the NMI sequence takes the latch back (R910). -/
theorem latch_after_start (q : Interrupt) (latch : Bool) :
    (latch && decide (q.sequence ≠ .nmi)) = if q = .nmi then false else latch := by
  cases q with
  | nmi => exact Bool.and_false latch
  | irq => exact Bool.and_true latch

theorem sequence_eq (q : Interrupt) : q.sequence = if q = .nmi then .nmi else .irq := by
  cases q <;> rfl

/-! ### The statements -/

/-- Settles O19: both sequences take an interrupt to a vector in cartridge space. -/
theorem interruptEntry : Obligations.InterruptEntry := by
  refine fun r s => ⟨?nmi, ?irq⟩
  case nmi => exact takeInterrupt_enters _ _ (by decide) (by decide) s
  case irq =>
    obtain ⟨hlo, hhi⟩ := irqVectorOf_range r.hijacked
    exact takeInterrupt_enters _ _ hlo hhi s

/-- Settles O18: the fetch starts the recorded interrupt's own sequence; the detector is its definition. -/
theorem interruptDetectionAndStart : Obligations.InterruptDetectionAndStart := by
  refine ⟨fun s q hq => ?start, fun s => ?detector⟩
  case start => rw [fetch_recorded hq, ← latch_after_start, ← sequence_eq]; rfl
  case detector => rfl

end Sys2Proof.Machine

/-! ## 61_ppu.md: the registers as the CPU sees them (R1020 to R1033) and the flags (R1050) -/

namespace Sys2Proof.Machine

/-! ### Reads -/

/-- The flags stand above the five bits of the latch (R1013). -/
theorem statusByte_sum (s : State) : statusByte s =
    (if s.ppu.vblank then 0x80 else 0) + (if s.ppu.s0hit then 0x40 else 0) +
      (if s.ppu.overflow then 0x20 else 0) + (s.bus.ppuLatch &&& 0x1F) := by
  have h : ∀ (v z o : Bool) (b : Byte),
      flagByte v 7 ||| flagByte z 6 ||| flagByte o 5 ||| (b &&& 0x1F) =
        (if v then 0x80 else 0) + (if z then 0x40 else 0) + (if o then 0x20 else 0) + (b &&& 0x1F) := by
    decide +kernel
  exact h _ _ _ _

theorem statusRead_ppu (s : State) : (statusRead s).2.ppu = { s.ppu with
    vblank := false, w := false
    suppressVbl := if s.ppu.line = 241 ∧ s.ppu.dot = 1 then true else s.ppu.suppressVbl } := by
  have h : (s.ppu.suppressVbl || (decide (s.ppu.line = 241) && decide (s.ppu.dot = 1))) =
      if s.ppu.line = 241 ∧ s.ppu.dot = 1 then true else s.ppu.suppressVbl := by
    rw [← Bool.decide_and]
    split <;> simp [*]
  rw [← h]
  rfl

/-- The masked bytes of OAM, one in each record, are those at indexes 2 modulo 4 (R1032). -/
theorem oamRead_eq (p : Ppu) : oamRead p =
    if p.oamaddr.toNat % 4 = 2 then p.oam.read p.oamaddr.toNat &&& 0xE3
    else p.oam.read p.oamaddr.toNat := by
  have h : ∀ o : Byte, o &&& 3 = 2 ↔ o.toNat % 4 = 2 := by decide +kernel
  simp only [oamRead, h]

theorem vramIncrement_eq (p : Ppu) : vramIncrement p = { p with
    v := BitVec.ofNat 15 ((p.v.toNat + (if p.ctrl.getLsbD 2 then 32 else 1)) % 32768) } := by
  have h : p.v + (if p.inc32 then 32 else 1) =
      BitVec.ofNat 15 ((p.v.toNat + (if p.ctrl.getLsbD 2 then 32 else 1)) % 32768) := by
    unfold Ppu.inc32
    split <;> bv_omega
  rw [vramIncrement, h]

@[simp] theorem ppuRead_v (a : BitVec 14) (s : State) : (ppuRead a s).2.ppu.v = s.ppu.v := by
  unfold ppuRead
  split_ifs <;> rfl

@[simp] theorem ppuRead_ctrl (a : BitVec 14) (s : State) : (ppuRead a s).2.ppu.ctrl = s.ppu.ctrl := by
  unfold ppuRead
  split_ifs <;> rfl

/-- What a $2007 read leaves once `r` was read from the PPU bus: the buffer refilled, v moved on (R1033). -/
def refilled (r : Byte × State) : State :=
  { r.2 with ppu := vramIncrement { r.2.ppu with rdbuf := r.1 } }

/-- The increment is taken from v and PPUCTRL as they were before the bus read. -/
theorem refilled_ppuRead (a : BitVec 14) (s : State) : refilled (ppuRead a s) =
    { (ppuRead a s).2 with ppu := { (ppuRead a s).2.ppu with
      rdbuf := (ppuRead a s).1
      v := BitVec.ofNat 15 ((s.ppu.v.toNat + (if s.ppu.ctrl.getLsbD 2 then 32 else 1)) % 32768) } } := by
  rw [refilled, vramIncrement_eq]
  simp only [ppuRead_v, ppuRead_ctrl]

theorem dataRead_buffered {s : State} (h : (vramAddress s).toNat < 0x3F00) :
    dataRead s = (s.ppu.rdbuf, refilled (ppuRead (vramAddress s) s)) :=
  if_pos (BitVec.lt_def.2 h)

/-- In the palette range the entry itself is shown, and the buffer takes the byte of VRAM beneath it. -/
theorem dataRead_palette {s : State} (h : 0x3F00 ≤ (vramAddress s).toNat) :
    dataRead s = ((s.bus.ppuLatch &&& 0xC0) |||
        (greyed s.ppu (palRead s.ppu.pal (palIndex (vramAddress s)))).setWidth 8,
      refilled (ppuRead (vramAddress s - 0x1000) s)) :=
  if_neg (fun hlt => Nat.not_lt.2 h (BitVec.lt_def.1 hlt))

/-! ### The flags of PPUSTATUS (R1050) -/

theorem spriteEval_vblank (l : Nat) (p : Ppu) : (spriteEval l p).vblank = p.vblank := by
  unfold spriteEval
  split <;> rfl

theorem spriteEval_s0hit (l : Nat) (p : Ppu) : (spriteEval l p).s0hit = p.s0hit := by
  unfold spriteEval
  split <;> rfl

theorem dotHead_vblankStart (p : Ppu) : dotHead 241 1 p =
    { p with vblank := if p.suppressVbl then p.vblank else true, suppressVbl := false } := by
  have h : (p.vblank || !p.suppressVbl) = if p.suppressVbl then p.vblank else true := by
    cases p.suppressVbl <;> simp
  rw [← h]
  rfl

theorem dotHead_preRender (p : Ppu) :
    dotHead 261 1 p = { p with vblank := false, s0hit := false, overflow := false } := rfl

/-- At every other dot only sprite evaluation acts, which leaves vblank and the sprite-0 hit. -/
theorem dotHead_flags {l d : Nat} (hset : ¬ (l = 241 ∧ d = 1)) (hclear : ¬ (l = 261 ∧ d = 1))
    (p : Ppu) : (dotHead l d p).vblank = p.vblank ∧ (dotHead l d p).s0hit = p.s0hit := by
  simp only [dotHead, if_neg hset, if_neg hclear]
  exact ⟨(view_ite Ppu.vblank (spriteEval_vblank l _)).trans (view_ite Ppu.vblank rfl),
    (view_ite Ppu.s0hit (spriteEval_s0hit l _)).trans (view_ite Ppu.s0hit rfl)⟩

/-- Settles O47: register by register, then the two dots that set and clear the flags. -/
theorem ppuReadsAndVblank : Obligations.PpuReadsAndVblank := by
  refine ⟨fun s => ⟨statusByte_sum s, statusRead_ppu s, ?stays, ?withdrawn⟩, fun s => ?oam,
    fun s => ⟨fun h => ?buffered, fun h => ?palette⟩,
    fun p => ⟨dotHead_vblankStart p, dotHead_preRender p,
      fun _ _ hset hclear => dotHead_flags hset hclear p⟩⟩
  case stays => exact fun h => if_neg h
  case withdrawn => exact fun h => if_pos h
  case oam => exact congrArg (fun b => latchPpu (b, s)) (oamRead_eq s.ppu)
  case buffered =>
    exact congrArg latchPpu ((dataRead_buffered h).trans (congrArg (Prod.mk _) (refilled_ppuRead _ s)))
  case palette =>
    exact congrArg latchPpu ((dataRead_palette h).trans (congrArg (Prod.mk _) (refilled_ppuRead _ s)))

/-! ### Writes: the fields of t (R1021, R1025, R1026) -/

section Fields

variable {t m x : BitVec 15}

/-- Bits the mask keeps and the new value has clear stay as they were. -/
theorem kept_bits (k : BitVec 15) (hm : m &&& k = k) (hx : x &&& k = 0) :
    (t &&& m ||| x) &&& k = t &&& k := by
  rw [BitVec.and_or_distrib_right, BitVec.and_assoc, hm, hx]
  exact BitVec.or_zero

/-- The `n` bits from bit `k` on are the new value's where the mask clears them. -/
theorem set_field (k n : Nat) (hm : m.extractLsb' k n = 0) :
    (t &&& m ||| x).toNat >>> k % 2 ^ n = x.toNat >>> k % 2 ^ n := by
  have h : (t &&& m ||| x).extractLsb' k n = x.extractLsb' k n := by
    rw [BitVec.extractLsb'_or, BitVec.extractLsb'_and, hm]
    simp
  exact congrArg BitVec.toNat h

/-- They are as they were where the mask keeps them and the new value has them clear. -/
theorem kept_field (k n : Nat) (hm : m.extractLsb' k n = BitVec.allOnes n) (hx : x.extractLsb' k n = 0) :
    (t &&& m ||| x).toNat >>> k % 2 ^ n = t.toNat >>> k % 2 ^ n := by
  have h : (t &&& m ||| x).extractLsb' k n = t.extractLsb' k n := by
    rw [BitVec.extractLsb'_or, BitVec.extractLsb'_and, hm, hx]
    simp
  exact congrArg BitVec.toNat h

end Fields

/-- A write to $2000 puts its low two bits in the nametable field of t. -/
theorem nametable_field (d : Byte) (t : BitVec 15) :
    let t' := cleared t 0x0C00 ||| (d &&& 3).setWidth 15 <<< 10
    t' &&& 0x73FF = t &&& 0x73FF ∧ (t' >>> 10).toNat % 4 = d.toNat % 4 := by
  have hd : ∀ d : Byte, ((d &&& 3).setWidth 15 <<< 10 : BitVec 15) &&& 0x73FF = 0 ∧
      ((d &&& 3).setWidth 15 <<< 10 : BitVec 15).toNat >>> 10 % 2 ^ 2 = d.toNat % 4 := by decide +kernel
  obtain ⟨hclear, hfield⟩ := hd d
  exact ⟨kept_bits _ (by decide) hclear, (set_field 10 2 (by decide)).trans hfield⟩

theorem writeScroll_first (d : Byte) {p : Ppu} (h : p.w = false) : writeScroll d p =
    { p with t := cleared p.t 0x001F ||| (d >>> 3).setWidth 15, x := d.setWidth 3, w := true } :=
  if_pos h

theorem writeScroll_second (d : Byte) {p : Ppu} (h : p.w = true) : writeScroll d p =
    { p with
      t := cleared p.t 0x73E0 ||| ((d &&& 7).setWidth 15 <<< 12 ||| (d >>> 3).setWidth 15 <<< 5)
      w := false } := by
  rw [writeScroll, if_neg (by simp [h]), BitVec.or_assoc]

theorem writeVramAddr_first (d : Byte) {p : Ppu} (h : p.w = false) : writeVramAddr d p =
    { p with t := (p.t &&& 0x00FF) ||| (d &&& 0x3F).setWidth 15 <<< 8, w := true } :=
  if_pos h

theorem writeVramAddr_second (d : Byte) {p : Ppu} (h : p.w = true) : writeVramAddr d p =
    { p with
      t := (p.t &&& 0x7F00) ||| d.setWidth 15, v := (p.t &&& 0x7F00) ||| d.setWidth 15, w := false } :=
  if_neg (by simp [h])

/-- The first write of the scroll sets coarse X. -/
theorem coarseX_field (d : Byte) (t : BitVec 15) :
    let t' := cleared t 0x001F ||| (d >>> 3).setWidth 15
    t' &&& 0x7FE0 = t &&& 0x7FE0 ∧ t'.toNat % 32 = d.toNat / 8 := by
  have hd : ∀ d : Byte, ((d >>> 3).setWidth 15 : BitVec 15) &&& 0x7FE0 = 0 ∧
      ((d >>> 3).setWidth 15 : BitVec 15).toNat >>> 0 % 2 ^ 5 = d.toNat / 8 := by decide +kernel
  obtain ⟨hclear, hfield⟩ := hd d
  exact ⟨kept_bits _ (by decide) hclear, (set_field 0 5 (by decide)).trans hfield⟩

/-- The second sets fine and coarse Y. -/
theorem scrollY_fields (d : Byte) (t : BitVec 15) :
    let t' := cleared t 0x73E0 ||| ((d &&& 7).setWidth 15 <<< 12 ||| (d >>> 3).setWidth 15 <<< 5)
    t' &&& 0x0C1F = t &&& 0x0C1F ∧ t'.toNat / 4096 = d.toNat % 8 ∧
      t'.toNat / 32 % 32 = d.toNat / 8 := by
  intro t'
  have hd : ∀ d : Byte,
      let y : BitVec 15 := (d &&& 7).setWidth 15 <<< 12 ||| (d >>> 3).setWidth 15 <<< 5
      y &&& 0x0C1F = 0 ∧ y.toNat >>> 12 % 2 ^ 3 = d.toNat % 8 ∧
        y.toNat >>> 5 % 2 ^ 5 = d.toNat / 8 := by decide +kernel
  obtain ⟨hclear, hfine, hcoarse⟩ := hd d
  have hfine' : t'.toNat >>> 12 % 2 ^ 3 = d.toNat % 8 := (set_field 12 3 (by decide)).trans hfine
  have hcoarse' : t'.toNat >>> 5 % 2 ^ 5 = d.toNat / 8 := (set_field 5 5 (by decide)).trans hcoarse
  have hlt := t'.isLt
  rw [Nat.shiftRight_eq_div_pow] at hfine' hcoarse'
  exact ⟨kept_bits _ (by decide) hclear, by omega, hcoarse'⟩

/-- A 15-bit address is its bits 14 to 8 over its low byte. -/
theorem toNat_eq_bytes (v : BitVec 15) :
    v.toNat = v.toNat >>> 8 % 2 ^ 7 * 256 + v.toNat >>> 0 % 2 ^ 8 := by
  have := v.isLt
  rw [Nat.shiftRight_eq_div_pow]
  omega

/-- The first write of the address sets bits 13 to 8 and clears bit 14. -/
theorem addrHigh_toNat (d : Byte) (t : BitVec 15) :
    ((t &&& 0x00FF) ||| (d &&& 0x3F).setWidth 15 <<< 8).toNat = d.toNat % 64 * 256 + t.toNat % 256 := by
  have hd : ∀ d : Byte, ((d &&& 0x3F).setWidth 15 <<< 8 : BitVec 15).extractLsb' 0 8 = 0 ∧
      ((d &&& 0x3F).setWidth 15 <<< 8 : BitVec 15).toNat >>> 8 % 2 ^ 7 = d.toNat % 64 := by
    decide +kernel
  obtain ⟨hclear, hfield⟩ := hd d
  rw [toNat_eq_bytes, set_field 8 7 (by decide), hfield, kept_field 0 8 (by decide) hclear]
  rfl

/-- The second sets the low byte. -/
theorem addrLow_toNat (d : Byte) (t : BitVec 15) :
    ((t &&& 0x7F00) ||| d.setWidth 15).toNat = t.toNat / 256 * 256 + d.toNat := by
  have hd : ∀ d : Byte, (d.setWidth 15 : BitVec 15).extractLsb' 8 7 = 0 ∧
      (d.setWidth 15 : BitVec 15).toNat >>> 0 % 2 ^ 8 = d.toNat := by decide +kernel
  obtain ⟨hclear, hfield⟩ := hd d
  have ht := t.isLt
  rw [toNat_eq_bytes, set_field 0 8 (by decide), hfield, kept_field 8 7 (by decide) hclear,
    Nat.shiftRight_eq_div_pow]
  omega

theorem vramIncrement_toNat (p : Ppu) :
    (vramIncrement p).v.toNat = (p.v.toNat + (if p.ctrl.getLsbD 2 then 32 else 1)) % 32768 := by
  rw [vramIncrement_eq, BitVec.toNat_ofNat, Nat.mod_mod]

/-- Settles O48: each register's write, with the fields of t as numbers. -/
theorem ppuRegisterWrites : Obligations.PpuRegisterWrites := by
  refine fun d s p => ⟨⟨rfl, rfl, rfl, rfl, rfl, rfl⟩, ?ctrl, fun hw => ?first, fun hw => ?second,
    vramIncrement_toNat p⟩
  case ctrl =>
    obtain ⟨hkept, hset⟩ := nametable_field d s.ppu.t
    exact ⟨_, hkept, hset, fun h => congrArg Except.ok (if_pos h), fun h => congrArg Except.ok (if_neg h)⟩
  case first =>
    obtain ⟨hkept, hx⟩ := coarseX_field d p.t
    rw [writeScroll_first d hw, writeVramAddr_first d hw]
    exact ⟨rfl, hkept, hx, rfl, addrHigh_toNat d p.t⟩
  case second =>
    obtain ⟨hkept, hfine, hcoarse⟩ := scrollY_fields d p.t
    rw [writeScroll_second d hw, writeVramAddr_second d hw]
    exact ⟨rfl, hkept, hfine, hcoarse, rfl, addrLow_toNat d p.t, rfl⟩

end Sys2Proof.Machine

/-! ## 61_ppu.md: sprite evaluation and the position (R1045, R1060) -/

namespace Sys2Proof.Machine

/-! ### Sprite evaluation -/

/-- The sprites of a list that are in range on line `l`, in order (R1060). -/
def spritesInRange (oam : Mem) (h l : Nat) (is : List Nat) : List Nat :=
  is.filter fun i => decide ((oam.read (4 * i)).toNat ≤ l) && decide (l - (oam.read (4 * i)).toNat < h)

/-- The record of sprite `i` on line `l`. -/
def entryOn (oam : Mem) (l i : Nat) : EvalEntry := evalEntry oam i (l - (oam.read (4 * i)).toNat)

/-- The scan adds the sprites in range while there is room, and stops at the first for which there is none. -/
theorem spriteScan_eq (oam : Mem) (h l : Nat) (is : List Nat) (acc : List EvalEntry)
    (hacc : acc.length ≤ 8) : spriteScan oam h l is acc =
      (acc ++ ((spritesInRange oam h l is).take (8 - acc.length)).map (entryOn oam l),
        decide (8 < acc.length + (spritesInRange oam h l is).length)) := by
  induction is generalizing acc with
  | nil => simp [spriteScan, spritesInRange, hacc]
  | cons i rest ih =>
    by_cases hi : (oam.read (4 * i)).toNat ≤ l ∧ l < (oam.read (4 * i)).toNat + h
    · have hhits : spritesInRange oam h l (i :: rest) = i :: spritesInRange oam h l rest :=
        List.filter_cons_of_pos (by simp; omega)
      rw [spriteScan, if_pos hi, hhits]
      by_cases hroom : acc.length < 8
      · rw [if_pos hroom, ih _ (by simp; omega), List.take_cons (by omega)]
        simp [entryOn, Nat.sub_sub, Nat.add_assoc, Nat.add_comm 1]
      · rw [if_neg hroom, show 8 - acc.length = 0 by omega]
        simp; omega
    · have hhits : spritesInRange oam h l (i :: rest) = spritesInRange oam h l rest :=
        List.filter_cons_of_neg (by simp; omega)
      rw [spriteScan, if_neg hi, hhits, ih acc hacc]

theorem rendering_iff (p : Ppu) :
    p.rendering = true ↔ p.mask.getLsbD 3 = true ∨ p.mask.getLsbD 4 = true := Bool.or_eq_true_iff

/-- Settles O50: the scan starts with all eight places free. -/
theorem spriteEvaluation : Obligations.SpriteEvaluation := by
  refine fun l p => ⟨fun hoff => if_pos (Bool.or_eq_false_iff.2 hoff), fun hon => ?_⟩
  have hscan := spriteScan_eq p.oam p.sprHeight l (List.range 64) [] (Nat.zero_le 8)
  rw [List.length_nil, Nat.zero_add] at hscan
  rw [spriteEval, if_neg (by simp [(rendering_iff p).2 hon]), hscan]
  rfl

/-! ### The position (R1002, R1045) -/

/-- The dot at the end of the pre-render line that an odd frame leaves out with rendering on (R1002). -/
abbrev skipsDot (p : Ppu) : Prop :=
  p.line = 261 ∧ p.dot = 339 ∧ p.frame % 2 = 1 ∧ (p.mask.getLsbD 3 = true ∨ p.mask.getLsbD 4 = true)

/-- The machine with the PPU at dot `d` of line `l`. -/
def movedTo (l d : Nat) (s : State) : State := { s with ppu := { s.ppu with line := l, dot := d } }

theorem advance_skip {s : State} (h : skipsDot s.ppu) : advance s = frameComplete (movedTo 0 0 s) := by
  obtain ⟨hline, hdot, hodd, hon⟩ := h
  simp [advance, movedTo, hline, hdot, hodd, (rendering_iff _).2 hon, oddFrameSkip]

theorem advance_noSkip {s : State} (h : ¬ skipsDot s.ppu) : advance s =
    if s.ppu.dot + 1 = 341 then
      if s.ppu.line + 1 = 262 then frameComplete (movedTo 0 0 s) else movedTo (s.ppu.line + 1) 0 s
    else movedTo s.ppu.line (s.ppu.dot + 1) s := by
  have hdot : ¬ (s.ppu.line = 261 ∧ s.ppu.dot = 339 ∧ s.ppu.frame % 2 = 1 ∧
      s.ppu.rendering = true ∧ oddFrameSkip = true) := by
    rintro ⟨hline, hdot, hodd, hon, -⟩
    exact h ⟨hline, hdot, hodd, (rendering_iff _).1 hon⟩
  simp only [advance, if_neg hdot]
  rfl

/-- The number of the next position, the dots counted line after line. -/
def nextPosition (p : Ppu) : Nat := if skipsDot p then 0 else (p.line * 341 + p.dot + 1) % 89342

theorem advance_eq {s : State} (hline : s.ppu.line < 262) (hdot : s.ppu.dot < 341) : advance s =
    if nextPosition s.ppu = 0 then frameComplete (movedTo 0 0 s)
    else movedTo (nextPosition s.ppu / 341) (nextPosition s.ppu % 341) s := by
  by_cases hskip : skipsDot s.ppu
  · rw [advance_skip hskip, nextPosition, if_pos hskip, if_pos rfl]
  · rw [advance_noSkip hskip, nextPosition, if_neg hskip]
    generalize hn : (s.ppu.line * 341 + s.ppu.dot + 1) % 89342 = n
    by_cases hend : s.ppu.dot + 1 = 341
    · rw [if_pos hend]
      by_cases hlast : s.ppu.line + 1 = 262
      · rw [if_pos hlast, if_pos (by omega)]
      · rw [if_neg hlast, if_neg (by omega), show n / 341 = s.ppu.line + 1 by omega,
          show n % 341 = 0 by omega]
    · rw [if_neg hend, if_neg (by omega), show n / 341 = s.ppu.line by omega,
        show n % 341 = s.ppu.dot + 1 by omega]

/-- Settles O51: the picture and the audio handed over are those of before the move. -/
theorem positionAdvances : Obligations.PositionAdvances := by
  intro s hline hdot
  have hadvance := advance_eq hline hdot
  have hlt : nextPosition s.ppu < 89342 := by
    unfold nextPosition
    split <;> omega
  by_cases hnext : nextPosition s.ppu = 0
  · rw [if_pos hnext] at hadvance
    rw [hadvance]
    have hfirst : 0 * 341 + 0 = nextPosition s.ppu := hnext.symm
    exact ⟨hfirst, Nat.succ_pos 261, Nat.succ_pos 340, fun h => absurd hnext h,
      fun _ => ⟨rfl, rfl, rfl, rfl⟩⟩
  · rw [if_neg hnext] at hadvance
    rw [hadvance]
    have hgrid : nextPosition s.ppu / 341 < 262 := by omega
    exact ⟨Nat.div_add_mod' _ 341, hgrid, Nat.mod_lt _ (by decide),
      fun _ => ⟨rfl, rfl, rfl, rfl⟩, fun h => absurd h hnext⟩

end Sys2Proof.Machine

/-! ## 62_apu.md: $4015, the DMC reader and the frame sequencer (R1229, R1230, R1241 to R1250, R1276) -/

namespace Sys2Proof.Machine

/-! ### Reading and writing $4015 (R1229, R1230) -/

/-- The bits of the status byte, from bit 7 down (R1230). -/
theorem apuStatusByte_bits (latch : Byte) (u : Apu) :
    let v := apuStatusByte latch u
    v.getLsbD 7 = u.dmc.irqFlag ∧ v.getLsbD 6 = u.seq.frameIrq ∧ v.getLsbD 5 = latch.getLsbD 5 ∧
    v.getLsbD 4 = decide (u.dmc.bytesRemaining ≠ 0) ∧ v.getLsbD 3 = decide (u.noise.length ≠ 0) ∧
    v.getLsbD 2 = decide (u.tri.length ≠ 0) ∧ v.getLsbD 1 = decide (u.p2.length ≠ 0) ∧
    v.getLsbD 0 = decide (u.p1.length ≠ 0) := by
  simp [apuStatusByte, flagByte_getElem, bne, beq_eq_decide]

@[simp] theorem dmcEnable_irqFlag (on : Bool) (c : Dmc) : (dmcEnable on c).irqFlag = false := by
  simp only [dmcEnable]
  split_ifs <;> rfl

theorem dmcEnable_busy {c : Dmc} (h : c.bytesRemaining ≠ 0) :
    dmcEnable true c = { c with irqFlag := false } := if_neg h

theorem dmcEnable_idle {c : Dmc} (h : c.bytesRemaining = 0) : dmcEnable true c =
    { c with irqFlag := false, curAddr := c.sampleAddr, bytesRemaining := c.sampleLen } := if_pos h

/-- Settles O52, by the bits of the status byte and the DMC's three cases. -/
theorem apuStatusAndEnable : Obligations.ApuStatusAndEnable := by
  intro s d u
  refine ⟨apuStatusByte_bits s.bus.apuLatch s.apu, rfl, rfl, rfl, rfl, rfl, rfl, rfl, rfl, rfl,
    dmcEnable_irqFlag _ _, ?off, ?busy, ?idle⟩
  all_goals intro hd; rw [writeChannelEnable, hd]
  case off => rfl
  case busy => intro h; rw [dmcEnable_busy h]; exact ⟨rfl, rfl⟩
  case idle => intro h; rw [dmcEnable_idle h]; exact ⟨rfl, rfl⟩

/-! ### The DMC memory reader (R1276) -/

theorem wantsByte_iff (c : Dmc) : c.wantsByte = true ↔ c.buffer = none ∧ c.bytesRemaining ≠ 0 := by
  simp [Dmc.wantsByte]

/-- The address after the current one, which goes round within program space (R1276). -/
def Dmc.nextAddr (c : Dmc) : Word := if c.curAddr = 0xFFFF then 0x8000 else c.curAddr + 1

/-- The reader after the byte `b`, field by field: the last byte of a looping sample starts it again, that of
another raises the interrupt if it is enabled (R1276). -/
theorem dmcTake_eq (b : Byte) (c : Dmc) : dmcTake b c = { c with
    buffer := some b
    curAddr := if c.bytesRemaining = 1 ∧ c.loop = true then c.sampleAddr else c.nextAddr
    bytesRemaining :=
      if c.bytesRemaining = 1 ∧ c.loop = true then c.sampleLen else c.bytesRemaining - 1
    irqFlag :=
      if c.bytesRemaining = 1 ∧ c.loop = false ∧ c.irqEnable = true then true else c.irqFlag } := by
  by_cases hlast : c.bytesRemaining = 1
  · cases hloop : c.loop
    case false => cases henable : c.irqEnable <;> simp [dmcTake, Dmc.nextAddr, hlast, hloop, henable]
    case true => simp [dmcTake, hlast, hloop]
  · have hleft : c.bytesRemaining - 1 ≠ 0 := by rwa [Ne, sub_eq_zero]
    simp only [hlast, false_and, if_false]
    exact if_neg hleft

/-- Settles O53: one read of program space, then the reader with the byte taken. -/
theorem dmcReaderFetches : Obligations.DmcReaderFetches := by
  intro s
  refine ⟨fun h => dmcReader_idle ?_, fun hbuf hrem ha => ?_⟩
  · rw [Bool.eq_false_iff, Ne, wantsByte_iff]
    tauto
  · rw [dmcReader_fetch ((wantsByte_iff _).2 ⟨hbuf, hrem⟩) ha, dmcTake_eq]
    rfl

/-! ### The frame sequencer (R1241, R1242, R1244) -/

/-- One step of the counter and the frame interrupt in the four-step mode, before the counter comes round
(R1241, R1242). -/
def FrameSeq.count (f : FrameSeq) : FrameSeq :=
  { f with
    fc := f.fc + 1
    frameIrq := if 29828 ≤ f.fc + 1 then f.frameIrq || !f.inhibit else f.frameIrq }

/-- The sequencer `k` steps on from counter 0 (R1242). -/
def FrameSeq.after (k : Nat) (f : FrameSeq) : FrameSeq :=
  { f with fc := k, frameIrq := if 29828 ≤ k then f.frameIrq || !f.inhibit else f.frameIrq }

theorem FrameSeq.after_zero {f : FrameSeq} (hfc : f.fc = 0) : f.after 0 = f := by
  rw [← hfc, FrameSeq.after, if_neg (by omega)]

theorem FrameSeq.count_after (k : Nat) (f : FrameSeq) : (f.after k).count = f.after (k + 1) := by
  unfold FrameSeq.count FrameSeq.after
  by_cases hk : 29828 ≤ k
  · have hk' : 29828 ≤ k + 1 := by omega
    simp only [hk, hk', if_true, Bool.or_assoc, Bool.or_self]
  · simp only [hk, if_false]

/-- Of the events before the counter comes round, those from 29828 on set the frame interrupt, and the clocks
leave the sequencer alone (R1242). -/
theorem fourStepEvent_seq {u : Apu} (h : u.seq.fc ≤ 29829) : (fourStepEvent u).seq =
    if 29828 ≤ u.seq.fc then (setFrameIrq u).seq else u.seq := by
  unfold fourStepEvent
  split
  case h_6 hfc => rw [hfc] at h; exact absurd h (by decide)
  case h_7 hfirst hsecond _ =>
    have hbefore : ¬ 29828 ≤ u.seq.fc := fun hle =>
      (show u.seq.fc = 29828 ∨ u.seq.fc = 29829 by omega).elim hfirst hsecond
    exact (if_neg hbefore).symm
  all_goals next hfc => rw [hfc]; rfl

theorem frameSeqStep_fourStep {u : Apu} (hdelay : u.seq.resetDelay = none) (hmode : u.seq.mode = false) :
    frameSeqStep u = fourStepEvent { u with seq := { u.seq with fc := u.seq.fc + 1 } } := by
  rw [frameSeqStep, hdelay]
  exact if_neg (Bool.eq_false_iff.1 hmode)

theorem frameSeqStep_seq {u : Apu} (hdelay : u.seq.resetDelay = none) (hmode : u.seq.mode = false)
    (hfc : u.seq.fc < 29829) : (frameSeqStep u).seq = u.seq.count := by
  rw [frameSeqStep_fourStep hdelay hmode, fourStepEvent_seq (Nat.succ_le_of_lt hfc)]
  unfold FrameSeq.count
  split <;> rfl

theorem frameSeqStep_iterate_seq {u : Apu} (hdelay : u.seq.resetDelay = none) (hfc : u.seq.fc = 0)
    (hmode : u.seq.mode = false) {k : Nat} (hk : k ≤ 29829) :
    ((frameSeqStep^[k]) u).seq = u.seq.after k := by
  induction k with
  | zero => exact (FrameSeq.after_zero hfc).symm
  | succ k ih =>
    have hseq := ih (by omega)
    rw [Function.iterate_succ_apply', frameSeqStep_seq (by rwa [hseq]) (by rwa [hseq]) (by rwa [hseq]),
      hseq, FrameSeq.count_after]

/-! ### The lengths at a half clock (R1245, R1250) -/

/-- A length counts down by one, and stops at 0, unless its channel is halted. -/
theorem lengthClock_toNat (n : Byte) (halt : Bool) :
    (lengthClock n halt).toNat = n.toNat - (if halt then 0 else 1) := by
  unfold lengthClock
  split
  case isTrue h =>
    obtain ⟨hn, hrun⟩ := h
    rw [hrun, if_neg Bool.false_ne_true]
    bv_omega
  case isFalse h =>
    cases halt
    case true => rfl
    case false =>
      have hn : n = 0 := by simpa using h
      rw [hn]; rfl

/-- Settles O54: the sequencer after `k` steps, and the length counter's law for each channel. -/
theorem frameSequencerCounts : Obligations.FrameSequencerCounts := by
  refine ⟨fun u k hdelay hfc hmode hk => ?_, fun u => ⟨?_, ?_, ?_, ?_⟩⟩
  · rw [frameSeqStep_iterate_seq hdelay hfc hmode hk]
    exact ⟨rfl, fun h => if_neg (by omega), fun h => if_pos h⟩
  · exact lengthClock_toNat u.p1.length u.p1.halt
  · exact lengthClock_toNat u.p2.length u.p2.halt
  · exact lengthClock_toNat u.tri.length u.tri.control
  · exact lengthClock_toNat u.noise.length u.noise.halt

end Sys2Proof.Machine

/-! ## 63_mappers.md: banks, MMC1's serial port and MMC3's counter (R1405, R1420, R1456) -/

namespace Sys2Proof.Machine

/-! ### Banks (R1404 to R1406) -/

/-- Whole 16 KiB units fill the image, so it holds a whole bank of every window size but AxROM's. -/
theorem prgOffset_lt {c : Cart} (a : Nat) (hpos : 0 < c.prgLen) (hunits : c.prgLen % 16384 = 0)
    (hbank : c.hasPrgBank = true) : c.prgOffset a < c.prgLen := by
  have hunit : 16384 ≤ c.prgLen := by omega
  unfold Cart.prgOffset
  cases hm : c.mapper with
  | nrom => exact Nat.mod_lt _ hpos
  | cnrom _ => exact Nat.mod_lt _ hpos
  | mmc1 m => exact bank_offset_lt _ _ _ _ (by decide) hunit
  | uxrom bank => exact bank_offset_lt _ _ _ _ (by decide) hunit
  | mmc3 m => exact bank_offset_lt _ _ _ _ (by decide) (by omega)
  | axrom bank single =>
    rw [Cart.hasPrgBank, hm] at hbank
    exact bank_offset_lt _ _ _ _ (by decide) (of_decide_eq_true hbank)

/-- The graphics storage, ROM or RAM, holds a whole 8 KiB bank. -/
theorem chrSize_ge {c : Cart} (hunits : c.chrLen % 8192 = 0) : 8192 ≤ c.chrSize := by
  unfold Cart.chrSize
  split <;> omega

theorem chrOffset_lt {c : Cart} {a : Nat} (hunits : c.chrLen % 8192 = 0) (ha : a < 8192) :
    c.chrOffset a < c.chrSize := by
  have hsize := chrSize_ge hunits
  unfold Cart.chrOffset
  cases c.mapper with
  | nrom => exact ha.trans_le hsize
  | uxrom _ => exact ha.trans_le hsize
  | axrom _ _ => exact ha.trans_le hsize
  | mmc1 m => exact bank_offset_lt _ _ _ _ (by decide) (by omega)
  | cnrom bank => exact bank_offset_lt _ _ _ _ (by decide) hsize
  | mmc3 m => exact bank_offset_lt _ _ _ _ (by decide) (by omega)

/-- Settles O56: the bank number is a remainder by definition, and each variant's window size divides into
storage that holds a whole bank. -/
theorem banksWrap : Obligations.BanksWrap :=
  ⟨fun _ _ _ => rfl, fun _ a => prgOffset_lt a, fun _ _ => chrOffset_lt⟩

/-! ### MMC1's serial port (R1420) -/

/-- The port after one more bit: the bits move down, and the new one comes in at the top. -/
def Mmc1.shiftedIn (r : BitVec 5) (b : Bool) : BitVec 5 := (r >>> 1) ||| (if b then 0x10 else 0)

/-- Register `k` loaded with `w`. -/
def Mmc1.loaded (m : Mmc1) (k : Nat) (w : BitVec 5) : Mmc1 :=
  match k with
  | 0 => { m with control := w }
  | 1 => { m with chr0 := w }
  | 2 => { m with chr1 := w }
  | _ => { m with prg := w }

section Mmc1Writes

variable {m : Mmc1} {d : Byte} (a : Nat)

theorem mmc1_write_reset (hd : d.getLsbD 7 = true) :
    m.write a d = { m with shift := 0x10, control := m.control ||| 0x0C } := if_pos hd

theorem mmc1_write_shift (hd : d.getLsbD 7 = false) (hmore : m.shift.getLsbD 0 = false) :
    m.write a d = { m with shift := Mmc1.shiftedIn m.shift (d.getLsbD 0) } := by
  rw [Mmc1.write, if_neg (Bool.eq_false_iff.1 hd)]
  exact if_neg (Bool.eq_false_iff.1 hmore)

theorem mmc1_write_load (hd : d.getLsbD 7 = false) (hlast : m.shift.getLsbD 0 = true) :
    m.write a d =
      { m.loaded (a / 8192 % 4) (Mmc1.shiftedIn m.shift (d.getLsbD 0)) with shift := 0x10 } := by
  rw [Mmc1.write, if_neg (Bool.eq_false_iff.1 hd)]
  refine (if_pos hlast).trans ?_
  generalize a / 8192 % 4 = k
  match k with
  | 0 | 1 | 2 | _ + 3 => rfl

end Mmc1Writes

/-- A marker bit starts at the top of the empty port: it is at the bottom after four bits, so that the fifth
completes the value. -/
theorem mmc1_port_bits : ∀ b0 b1 b2 b3 b4 : Bool,
    let r1 := Mmc1.shiftedIn 0x10 b0
    let r2 := Mmc1.shiftedIn r1 b1
    let r3 := Mmc1.shiftedIn r2 b2
    let r4 := Mmc1.shiftedIn r3 b3
    r1.getLsbD 0 = false ∧ r2.getLsbD 0 = false ∧ r3.getLsbD 0 = false ∧ r4.getLsbD 0 = true ∧
    Mmc1.shiftedIn r4 b4 = BitVec.ofBool b4 ++ BitVec.ofBool b3 ++ BitVec.ofBool b2 ++
      BitVec.ofBool b1 ++ BitVec.ofBool b0 := by
  decide

/-- A load takes nothing from the port and leaves it. -/
theorem mmc1_loaded_shift (m : Mmc1) (r : BitVec 5) (k : Nat) (w : BitVec 5) :
    { Mmc1.loaded { m with shift := r } k w with shift := m.shift } = m.loaded k w := by
  unfold Mmc1.loaded
  split <;> rfl

theorem mmc1After_five {m : Mmc1} (a0 a1 a2 a3 a : Nat) {d0 d1 d2 d3 d4 : Byte} (hempty : m.shift = 0x10)
    (hd : ∀ d ∈ [d0, d1, d2, d3, d4], d.getLsbD 7 = false) :
    mmc1After [(a0, d0), (a1, d1), (a2, d2), (a3, d3), (a, d4)] m = m.loaded (a / 8192 % 4)
      (BitVec.ofBool (d4.getLsbD 0) ++ BitVec.ofBool (d3.getLsbD 0) ++ BitVec.ofBool (d2.getLsbD 0) ++
        BitVec.ofBool (d1.getLsbD 0) ++ BitVec.ofBool (d0.getLsbD 0)) := by
  simp only [List.forall_mem_cons] at hd
  obtain ⟨hd0, hd1, hd2, hd3, hd4, -⟩ := hd
  obtain ⟨hr1, hr2, hr3, hr4, hvalue⟩ := mmc1_port_bits (d0.getLsbD 0) (d1.getLsbD 0) (d2.getLsbD 0)
    (d3.getLsbD 0) (d4.getLsbD 0)
  rw [← hempty] at hr1 hr2 hr3 hr4 hvalue
  simp only [mmc1After]
  rw [mmc1_write_shift a0 hd0 (by rw [hempty]; rfl), mmc1_write_shift a1 hd1 hr1,
    mmc1_write_shift a2 hd2 hr2, mmc1_write_shift a3 hd3 hr3, mmc1_write_load a hd4 hr4, hvalue,
    ← hempty]
  exact mmc1_loaded_shift m _ _ _

/-! ### MMC3's scanline counter (R1456) -/

/-- The counter is at `n` with no reload due, and the interrupt is pending exactly if it has come to 0. -/
structure Mmc3.Counting (n : Nat) (m : Mmc3) : Prop where
  counter : m.irqCounter.toNat = n
  reload : m.irqReload = false
  enabled : m.irqEnabled = true
  pending : m.irqPending = true ↔ n = 0

/-- The counter after a rise. -/
def Mmc3.nextCounter (m : Mmc3) : Byte :=
  if m.irqCounter = 0 ∨ m.irqReload = true then m.irqLatch else m.irqCounter - 1

/-- A rise, field by field. -/
theorem mmc3_a12Rise_eq (m : Mmc3) : m.a12Rise = { m with
    irqCounter := m.nextCounter
    irqReload := false
    irqPending := m.irqPending || (decide (m.nextCounter = 0) && m.irqEnabled) } := by
  by_cases hload : m.irqCounter = 0 ∨ m.irqReload = true
  · simp only [Mmc3.a12Rise, Mmc3.nextCounter, if_pos hload]
    split <;> simp_all
  · have hreload : m.irqReload = false := by simpa using fun h => hload (.inr h)
    simp only [Mmc3.a12Rise, Mmc3.nextCounter, if_neg hload]
    split <;> simp_all

theorem mmc3_counting_a12Rise {m : Mmc3} (henabled : m.irqEnabled = true)
    (hpending : m.irqPending = false) : Mmc3.Counting m.nextCounter.toNat m.a12Rise := by
  rw [mmc3_a12Rise_eq]
  refine ⟨rfl, rfl, henabled, ?_⟩
  simp only [hpending, henabled, Bool.false_or, Bool.and_true, decide_eq_true_eq]
  exact (BitVec.toNat_eq (y := 0)).trans .rfl

theorem Mmc3.Counting.a12Rise {n : Nat} {m : Mmc3} (h : m.Counting (n + 1)) : m.a12Rise.Counting n := by
  obtain ⟨hcounter, hreload, henabled, hpending⟩ := h
  have hnot : m.irqPending = false := by simpa using hpending
  have hnext : m.nextCounter.toNat = n := by
    have hne : m.irqCounter ≠ 0 := by rintro h; simp [h] at hcounter
    simp only [Mmc3.nextCounter, hne, hreload, Bool.false_eq_true, or_self, if_false]
    bv_omega
  exact hnext ▸ mmc3_counting_a12Rise henabled hnot

theorem Mmc3.Counting.rises {j n : Nat} {m : Mmc3} (h : m.Counting (n + j)) : (mmc3After j m).Counting n := by
  induction j generalizing m with
  | zero => exact h
  | succ j ih => exact ih h.a12Rise

/-- Settles O57: five writes fill the port and load the register, and the first rise sets the counter to the
latch, from which the others count down. -/
theorem mapperRegisters : Obligations.MapperRegisters := by
  refine ⟨fun m a0 a1 a2 a3 a d0 d1 d2 d3 d4 hempty hd => ?port, fun m a d => mmc1_write_reset a,
    fun m k hcounter henabled hpending hk hk' => ?counter⟩
  case port =>
    simp only [mmc1After_five a0 a1 a2 a3 a hempty hd]
    refine ⟨?_, ?_, ?_, ?_⟩ <;> (intro ha; rw [ha]; rfl)
  case counter =>
    obtain ⟨j, rfl⟩ := Nat.exists_eq_add_of_le' hk
    have hlatch : m.nextCounter = m.irqLatch := if_pos (.inl hcounter)
    have hfirst := mmc3_counting_a12Rise henabled hpending
    obtain ⟨n, hn⟩ := Nat.exists_eq_add_of_le' (show j ≤ m.irqLatch.toNat by omega)
    rw [hlatch, hn] at hfirst
    have hlast := hfirst.rises
    exact ⟨hlast.counter.trans (by omega), hlast.pending.trans (by omega)⟩

end Sys2Proof.Machine

/-! ## 64_orchestrator.md: the devices' part of a cycle and the controller ports (R1501, R1510, R1511) -/

namespace Sys2Proof.Machine

/-! ### The devices' part of a cycle (R903, R1501) -/

/-- The edge detector never takes the NMI latch back (R903). -/
theorem dotAndDetect_nmiPending {s : State} (h : s.cpu.nmiPending = true) :
    (dotAndDetect s).cpu.nmiPending = true := by
  have hdot : (ppuDot s).cpu = s.cpu := (congrArg State.cpu (ppuDot_offDot s) :)
  exact Bool.or_eq_true_iff.2 (.inl (by rw [hdot, h]))

theorem threeDots_nmiPending {s : State} (h : s.cpu.nmiPending = true) :
    (threeDots s).cpu.nmiPending = true :=
  dotAndDetect_nmiPending (dotAndDetect_nmiPending (dotAndDetect_nmiPending h))

theorem afterCpu_nmiPending {s : State} (h : apuInRange s = true) :
    (afterCpu s).cpu.nmiPending = (threeDots s).cpu.nmiPending := by
  obtain ⟨-, k, hcpu, -⟩ := apuStep_cpu ((apuInRange_iff _).1 ((threeDots_kept s).apu h)).1
  rw [afterCpu_eq, tickT_cpu, hcpu]

theorem rams_of_offDetect {s t : State} (h : t.offDetect = s.offDetect) :
    t.bus.ram = s.bus.ram ∧ t.cart.prgRam = s.cart.prgRam :=
  ⟨(congrArg (fun u : State => u.bus.ram) h :), (congrArg (fun u : State => u.cart.prgRam) h :)⟩

theorem rams_of_memories {s t : State} (h : t.memories = s.memories) :
    t.bus.ram = s.bus.ram ∧ t.cart.prgRam = s.cart.prgRam :=
  ⟨(congrArg Memories.ram h :), (congrArg Memories.prgRam h :)⟩

/-- No device writes console RAM or PRG-RAM. -/
theorem afterCpu_rams (s : State) :
    (afterCpu s).bus.ram = s.bus.ram ∧ (afterCpu s).cart.prgRam = s.cart.prgRam := by
  obtain ⟨hram, hprgRam⟩ := rams_of_offDetect (threeDots_offDetect s)
  obtain ⟨hram', hprgRam'⟩ := rams_of_memories (apuStep_memories (threeDots s))
  rw [afterCpu_eq, tickT_bus, tickT_cart]
  exact ⟨hram'.trans hram, hprgRam'.trans hprgRam⟩

/-- Settles O46: the dots reach the CPU through the edge detector, the APU through the stall. -/
theorem devicesLeaveCpu : Obligations.DevicesLeaveCpu := by
  intro s h
  obtain ⟨htime, np, nv, k, hcpu, hstall⟩ := afterCpu_cpu h
  obtain ⟨hram, hprgRam⟩ := afterCpu_rams s
  have hkept := afterCpu_kept s
  have hpending : (afterCpu s).cpu.nmiPending = np := by rw [hcpu]
  refine ⟨np, nv, k, hcpu, fun hp => ?_, hstall, htime, hkept.fault, hkept.refused, by simp [hram],
    by simp [hprgRam]⟩
  rw [← hpending, afterCpu_nmiPending h, threeDots_nmiPending hp]

/-! ### The controller ports (R1510, R1511) -/

theorem mem_write_strobe (d : Byte) (s : State) : memWrite 0x4016 d s = .ok (controllerWrite d s) := rfl

theorem mem_read_port1 (s : State) : memRead 0x4016 s = controllerRead1 s := rfl

theorem mem_read_port2 (s : State) : memRead 0x4017 s = controllerRead2 s := rfl

/-- Reads of one address, from an invariant that counts them: `P k` says that the next read is the one
numbered `k`, and gives `f k`. -/
theorem read_afterReads {a : Word} {P : Nat → State → Prop} {f : Nat → Byte}
    (hread : ∀ k s, P k s → (memRead a s).1 = f k ∧ P (k + 1) (memRead a s).2) {k : Nat} {s : State}
    (h : P k s) (n : Nat) : (memRead a (afterReads a n s)).1 = f (k + n) := by
  induction n generalizing k s with
  | zero => exact (hread k s h).1
  | succ n ih => rw [afterReads, ih (hread k s h).2, Nat.add_right_comm, Nat.add_assoc]

/-- The machine with both ports loaded (R1510). -/
def State.portsLoaded (strobe : Bool) (s : State) : State :=
  { s with bus :=
      loadPort2 s.host.buttons2 (loadPort1 s.host.buttons1 { s.bus with strobe := strobe }) }

theorem controllerWrite_odd {d : Byte} {s : State} (hd : d.getLsbD 0 = true) :
    controllerWrite d s = s.portsLoaded true := by
  simp only [controllerWrite, hd, if_true]
  rfl

theorem controllerWrite_even {d : Byte} {s : State} (hd : d.getLsbD 0 = false) :
    controllerWrite d (s.portsLoaded true) = s.portsLoaded false := by
  simp only [controllerWrite, hd, Bool.false_eq_true, if_false]
  rfl

/-- Port 1 holds the buttons `b`, of which `k` have been read. -/
def Port1At (b : Byte) (k : Nat) (s : State) : Prop :=
  s.bus.strobe = false ∧ s.bus.shift1 = b ∧ s.bus.count1 = min k 8

/-- The strobe is 1, and the host holds the buttons `b` of port 1. -/
def Strobed (b : Byte) (s : State) : Prop := s.bus.strobe = true ∧ s.host.buttons1 = b

/-- The byte of the read numbered `k` after the strobe has fallen: button `k`, then ones (R1511). -/
def portByte (b : Byte) (k : Nat) : Byte := controllerByte (if k < 8 then b.getLsbD k else true)

theorem portByte_eq (b : Byte) (k : Nat) :
    portByte b k = 0x40 ||| (if k < 8 then (b >>> k) &&& 1 else 1) := by
  unfold portByte controllerByte
  split
  · rw [← (flagByte_bit0 (b >>> k)).1, BitVec.getLsbD_ushiftRight]; rfl
  · rfl

theorem port1_read {b : Byte} {k : Nat} {s : State} (h : Port1At b k s) :
    (memRead 0x4016 s).1 = portByte b k ∧ Port1At b (k + 1) (memRead 0x4016 s).2 := by
  obtain ⟨hstrobe, rfl, hcount⟩ := h
  rw [mem_read_port1]
  simp only [controllerRead1, Port1At, portByte, hstrobe, Bool.false_eq_true, if_false]
  by_cases hk : k < 8
  · have hk' : s.bus.count1 = k := by omega
    rw [hk', if_neg (by omega), if_pos hk]
    exact ⟨rfl, rfl, rfl, by dsimp only; omega⟩
  · rw [if_pos (by omega), if_neg hk]
    exact ⟨rfl, hstrobe, rfl, by dsimp only; omega⟩

/-- While the strobe is 1 the port is loaded again before each read, which so gives the first button. -/
theorem strobed_read {b : Byte} {s : State} (h : Strobed b s) :
    (memRead 0x4016 s).1 = portByte b 0 ∧ Strobed b (memRead 0x4016 s).2 := by
  obtain ⟨hstrobe, rfl⟩ := h
  rw [mem_read_port1]
  simp only [controllerRead1, hstrobe, if_true, loadPort1]
  exact ⟨rfl, rfl, rfl⟩

/-- The machine with the two controllers changed over. -/
def State.portsSwapped (s : State) : State :=
  { s with
    bus := { s.bus with
      shift1 := s.bus.shift2, shift2 := s.bus.shift1, count1 := s.bus.count2, count2 := s.bus.count1 }
    host := { s.host with buttons1 := s.host.buttons2, buttons2 := s.host.buttons1 } }

/-- Port 2 is port 1 with the controllers changed over (R1511). -/
theorem controllerRead2_eq (s : State) : (controllerRead2 s).1 = (controllerRead1 s.portsSwapped).1 ∧
    (controllerRead2 s).2.portsSwapped = (controllerRead1 s.portsSwapped).2 := by
  have hstrobe : s.portsSwapped.bus.strobe = s.bus.strobe := rfl
  have hcount : s.portsSwapped.bus.count1 = s.bus.count2 := rfl
  unfold controllerRead1 controllerRead2
  rw [hstrobe]
  by_cases h : s.bus.strobe = true
  · simp only [if_pos h]
    exact ⟨rfl, rfl⟩
  · simp only [hstrobe, if_neg h, hcount]
    split <;> exact ⟨rfl, rfl⟩

theorem port2_read {b : Byte} {k : Nat} {s : State} (h : Port1At b k s.portsSwapped) :
    (memRead 0x4017 s).1 = portByte b k ∧ Port1At b (k + 1) (memRead 0x4017 s).2.portsSwapped := by
  obtain ⟨hbyte, hnext⟩ := controllerRead2_eq s
  rw [mem_read_port2, hbyte, hnext]
  exact port1_read h

/-- Settles O55: each write and read is the port's own, and the reads count the buttons through. -/
theorem controllerShiftsOut : Obligations.ControllerShiftsOut := by
  intro d1 d0 s s1 s2 hd1 hd0 h1 h2
  obtain rfl := Except.ok.inj ((mem_write_strobe d1 s).symm.trans h1)
  obtain rfl := Except.ok.inj ((mem_write_strobe d0 _).symm.trans h2)
  rw [controllerWrite_odd hd1, controllerWrite_even hd0]
  have hstrobed : Strobed s.host.buttons1 (s.portsLoaded true) := ⟨rfl, rfl⟩
  have hport1 : Port1At s.host.buttons1 0 (s.portsLoaded false) := ⟨rfl, rfl, rfl⟩
  have hport2 : Port1At s.host.buttons2 0 (s.portsLoaded false).portsSwapped := ⟨rfl, rfl, rfl⟩
  refine ⟨fun n => ?strobed, fun n => ?port1, fun n => ?port2⟩
  case strobed =>
    exact (read_afterReads (P := fun _ => Strobed _) (f := fun _ => portByte _ 0) (k := 0)
      (fun _ _ => strobed_read) hstrobed n).trans (portByte_eq _ 0)
  case port1 =>
    rw [← portByte_eq]
    simpa only [Nat.zero_add] using
      read_afterReads (P := Port1At _) (f := portByte _) (fun _ _ => port1_read) hport1 n
  case port2 =>
    rw [← portByte_eq]
    simpa only [Nat.zero_add] using
      read_afterReads (P := fun k t => Port1At _ k t.portsSwapped) (f := portByte _)
        (fun _ _ => port2_read) hport2 n

end Sys2Proof.Machine

/-! ## 70_reset_and_hazards.md: the seven cycles of the RESET sequence (R910, R1551, R1553) -/

namespace Sys2Proof.Machine

/-! ### The dots of the first line with rendering off (R1040, R1045) -/

/-- The PPU is at dot `d` of the first line, with rendering off. -/
structure Ppu.Dark (d : Nat) (p : Ppu) : Prop where
  line : p.line = 0
  dot : p.dot = d
  mask : p.mask = 0

theorem Ppu.Dark.rendering {d : Nat} {p : Ppu} (h : p.Dark d) : p.rendering = false := by
  simp [Ppu.rendering, Ppu.showBg, Ppu.showSpr, h.mask]

theorem spriteEval_dark {d : Nat} {p : Ppu} (l : Nat) (h : p.Dark d) : (spriteEval l p).Dark d := by
  rw [spriteEval, if_pos h.rendering]
  exact ⟨h.line, h.dot, h.mask⟩

theorem outputPixel_dark {d : Nat} {p : Ppu} (l x : Nat) (h : p.Dark d) : (outputPixel l x p).Dark d := by
  rw [outputPixel, if_pos h.rendering]
  exact ⟨h.line, h.dot, h.mask⟩

theorem dotHead_dark {d : Nat} {p : Ppu} (h : p.Dark d) : (dotHead p.line p.dot p).Dark d := by
  simp only [dotHead, h.line, Nat.reduceEqDiff, false_and, if_false]
  split
  · exact spriteEval_dark 0 h
  · exact h

theorem advance_dark {d : Nat} {s : State} (h : s.ppu.Dark d) (hd : d < 340) :
    advance s = movedTo 0 (d + 1) s := by
  have hskip : ¬ skipsDot s.ppu := fun ⟨hline, _⟩ => absurd (h.line.symm.trans hline) (by decide)
  rw [advance_noSkip hskip, h.line, h.dot, if_neg (by omega)]

/-- With rendering off a dot does not use the PPU bus, so it changes the PPU alone. -/
theorem ppuDot_dark {d : Nat} {s : State} (h : s.ppu.Dark d) (hd : d < 340) :
    ∃ p, ppuDot s = { s with ppu := p } ∧ p.Dark (d + 1) := by
  unfold ppuDot
  lift_lets
  extract_lets l e s1 s2 s3
  have h1 : s1.ppu.Dark d := dotHead_dark h
  have h2 : s2 = s1 := if_neg (fun hon => absurd hon.1 (by simp [h1.rendering]))
  have h3 : ∃ p, s3 = { s with ppu := p } ∧ p.Dark d := by
    unfold s3
    rw [h2]
    split
    · exact ⟨_, rfl, outputPixel_dark _ _ h1⟩
    · exact ⟨_, rfl, h1⟩
  obtain ⟨p, hp, hdark⟩ := h3
  rw [hp, advance_dark hdark hd]
  exact ⟨_, rfl, rfl, rfl, hdark.mask⟩

/-- So do three dots, but for the edge detector. -/
theorem threeDots_dark {d : Nat} {s : State} (h : s.ppu.Dark d) (hd : d + 2 < 340) :
    ∃ p c, threeDots s = { s with ppu := p, cpu := c } ∧ p.Dark (d + 3) := by
  have hdot (d : Nat) (t : State) (h : t.ppu.Dark d) (hd : d < 340) :
      ∃ p c, dotAndDetect t = { t with ppu := p, cpu := c } ∧ p.Dark (d + 1) := by
    obtain ⟨p, hp, hdark⟩ := ppuDot_dark h hd
    exact ⟨p, _, congrArg nmiDetect hp, hdark⟩
  obtain ⟨p1, c1, h1, hdark1⟩ := hdot d s h (by omega)
  obtain ⟨p2, c2, h2, hdark2⟩ := hdot (d + 1) { s with ppu := p1, cpu := c1 } hdark1 (by omega)
  obtain ⟨p3, c3, h3, hdark3⟩ := hdot (d + 2) { s with ppu := p2, cpu := c2 } hdark2 (by omega)
  exact ⟨p3, c3, by rw [threeDots, h1, h2, h3], hdark3⟩

/-! ### The APU with every channel silent (R1200, R1242) -/

/-- Every length counter is 0, the DMC has nothing to fetch, no interrupt flag is set, and the frame sequencer
is at step `n` of its four-step mode. -/
structure Apu.Quiet (n : Nat) (u : Apu) : Prop where
  p1 : u.p1.length = 0
  p2 : u.p2.length = 0
  tri : u.tri.length = 0
  noise : u.noise.length = 0
  dmcBytes : u.dmc.bytesRemaining = 0
  dmcIrq : u.dmc.irqFlag = false
  frameIrq : u.seq.frameIrq = false
  mode : u.seq.mode = false
  resetDelay : u.seq.resetDelay = none
  fc : u.seq.fc = n

/-- No event comes before step 7457 (R1242). -/
theorem fourStepEvent_early {u : Apu} (h : u.seq.fc < 7457) : fourStepEvent u = u := by
  unfold fourStepEvent
  split
  case h_7 => rfl
  all_goals next hfc => rw [hfc] at h; exact absurd h (by decide)

theorem frameSeqStep_quiet {n : Nat} {u : Apu} (h : u.Quiet n) (hn : n + 1 < 7457) :
    frameSeqStep u = { u with seq := { u.seq with fc := u.seq.fc + 1 } } := by
  rw [frameSeqStep_fourStep h.resetDelay h.mode, fourStepEvent_early]
  rwa [h.fc]

theorem pulseTimer_length (p : Pulse) : (pulseTimer p).length = p.length := by
  unfold pulseTimer
  split <;> rfl

theorem triangleTimer_length (t : Triangle) : (triangleTimer t).length = t.length := by
  unfold triangleTimer
  split <;> rfl

theorem noiseTimer_length (n : Noise) : (noiseTimer n).length = n.length := by
  unfold noiseTimer
  split <;> rfl

theorem dmcTimer_irqFlag (c : Dmc) : (dmcTimer c).irqFlag = c.irqFlag := by
  simp only [dmcTimer]
  split_ifs
  · split <;> rfl
  · rfl
  · rfl

theorem apuTimers_quiet {n : Nat} {u : Apu} (t : Nat) (h : u.Quiet n) (hn : n + 1 < 7457) :
    (apuTimers t u).Quiet (n + 1) := by
  unfold apuTimers
  extract_lets u1 u2
  have hcounted : u1.Quiet (n + 1) := by
    unfold u1
    rw [frameSeqStep_quiet h hn]
    exact { h with fc := congrArg (· + 1) h.fc }
  have hpulses : u2.Quiet (n + 1) := by
    unfold u2
    split
    · exact { hcounted with
        p1 := (pulseTimer_length _).trans hcounted.p1
        p2 := (pulseTimer_length _).trans hcounted.p2 }
    · exact hcounted
  exact { hpulses with
    tri := (triangleTimer_length _).trans hpulses.tri
    noise := (noiseTimer_length _).trans hpulses.noise
    dmcBytes := (dmcTimer_bytesRemaining _).trans hpulses.dmcBytes
    dmcIrq := (dmcTimer_irqFlag _).trans hpulses.dmcIrq }

theorem mixerSample_quiet {n : Nat} {u : Apu} (period : Nat) (h : u.Quiet n) :
    (mixerSample period u).Quiet n := by
  simp only [mixerSample]
  split <;> exact { h with }

/-- With nothing for the DMC to fetch the APU changes itself alone. -/
theorem apuStep_quiet {n : Nat} {s : State} (h : s.apu.Quiet n) (hn : n + 1 < 7457) :
    ∃ u, apuStep s = { s with apu := u } ∧ u.Quiet (n + 1) := by
  have htimers := apuTimers_quiet s.t h hn
  have hidle : (apuTimers s.t s.apu).dmc.wantsByte = false := by simp [Dmc.wantsByte, htimers.dmcBytes]
  rw [apuStep, dmcReader_idle (s := { s with apu := apuTimers s.t s.apu }) hidle]
  exact ⟨_, rfl, mixerSample_quiet _ htimers⟩

/-- All bits but the open-bus one read as 0 (R1230). -/
theorem apuStatusByte_quiet {n : Nat} {u : Apu} (latch : Byte) (h : u.Quiet n) :
    apuStatusByte latch u &&& 0xDF = 0 := by
  have hbyte : apuStatusByte latch u = latch &&& 0x20 := by
    simp [apuStatusByte, flagByte, h.p1, h.p2, h.tri, h.noise, h.dmcBytes, h.dmcIrq, h.frameIrq]
  rw [hbyte, BitVec.and_assoc]
  exact BitVec.and_zero

/-! ### The RESET sequence in flight (R140, R910) -/

/-- After `n` cycles from the power cycle the devices have only counted: the cartridge is `cart` still. -/
structure DevicesBooting (cart : Cart) (n : Nat) (m : State) : Prop where
  cartridge : m.cart = cart
  time : m.t = n
  ppu : m.ppu.Dark (3 * n)
  apu : m.apu.Quiet n

theorem DevicesBooting.afterCpu {cart : Cart} {n : Nat} {m : State} (h : DevicesBooting cart n m)
    (hn : n < 100) : DevicesBooting cart (n + 1) (afterCpu m) := by
  obtain ⟨p, c, hdots, hdark⟩ := threeDots_dark h.ppu (by omega)
  obtain ⟨u, hstep, hquiet⟩ := apuStep_quiet (s := { m with ppu := p, cpu := c }) h.apu (by omega)
  rw [afterCpu_eq, hdots, hstep]
  exact ⟨h.cartridge, congrArg (· + 1) h.time, hdark, hquiet⟩

/-- The RESET sequence is in flight, `e` of its cycles counted, with the registers of the power cycle; the
devices have had `n` cycles. -/
structure Booting (cart : Cart) (e n : Nat) (m : State) : Prop extends
    Midway (Inflight.reset 0x0000) e m, DevicesBooting cart n m where
  regs : m.cpu.regs = Cpu.powerUp.regs
  stall : m.cpu.dmcStall = 0

theorem booting_powerCycle (fill : Fill) (cart : Cart) (host : HostIO) :
    Booting (cart.powerUp fill) 0 0 (State.powerCycle fill cart host) :=
  { fault := rfl, refused := rfl, halted := rfl, record := ⟨false, rfl⟩, cartridge := rfl, time := rfl
    ppu := ⟨rfl, rfl, rfl⟩, apu := ⟨rfl, rfl, rfl, rfl, rfl, rfl, rfl, rfl, rfl, rfl⟩, regs := rfl
    stall := rfl }

/-- The poll and the count leave the registers. -/
theorem counted_regs (r : Inflight) (s : State) :
    (countElapsed (pollAtEntry r s)).cpu.regs = s.cpu.regs := by
  simp only [pollAtEntry, poll]
  split
  · split <;> rfl
  · rfl

theorem Booting.counted {cart : Cart} {e n : Nat} {m : State} {r : Inflight} (h : Booting cart e n m)
    (hr : m.cpu.inflight = some r) : Booting cart (e + 1) n (countElapsed (pollAtEntry r m)) := by
  have hstall : (countElapsed (pollAtEntry r m)).cpu.dmcStall = m.cpu.dmcStall :=
    congrArg Prod.fst (counted_hidden r m)
  have hdevices : DevicesBooting cart n (countElapsed (pollAtEntry r m)) := by
    obtain ⟨c, -, hcounted, -⟩ := counted_eq r m hr
    rw [hcounted]
    exact ⟨h.cartridge, h.time, h.ppu, h.apu⟩
  exact { h.toMidway.counted hr, hdevices with
    regs := (counted_regs r m).trans h.regs, stall := hstall.trans h.stall }

theorem CycleKept.regs {s t : State} (h : CycleKept s t) : t.cpu.regs = s.cpu.regs :=
  (congrArg Cpu.regs h.cpu :)

theorem CycleKept.pc {s t : State} (h : CycleKept s t) : t.cpu.pc = s.cpu.pc :=
  (congrArg Cpu.pc h.cpu :)

theorem Booting.after_devices {cart : Cart} {e n : Nat} {m : State} (h : Booting cart e n m)
    (hn : n < 100) : Booting cart e (n + 1) (afterCpu m) := by
  have hkept := afterCpu_kept m
  have hidle : Unstalled m := ⟨h.apu.dmcBytes, h.stall⟩
  exact { h.toMidway.kept hkept, h.toDevicesBooting.afterCpu hn with
    regs := hkept.regs.trans h.regs, stall := hidle.after_devices.2 }

theorem Booting.cycle_eq {cart : Cart} {e n : Nat} {m : State} (h : Booting cart e n m) :
    cycle m = thenDevices (advanceInflight m) := by
  rw [cycle_unmarked h.fault h.refused, h.toMidway.cpuStep_eq h.stall]

/-- Each of the first six cycles counts the sequence on. -/
theorem Booting.after_cycle {cart : Cart} {e n : Nat} {m : State} (h : Booting cart e n m) (he : e < 6)
    (hn : n < 100) : Booting cart (e + 1) (n + 1) (cycleState m) := by
  obtain ⟨hit, hr⟩ := h.record
  have hmore : e + 1 ≠ 7 := by omega
  rw [cycleState, h.cycle_eq, advanceInflight_more hr hmore]
  exact (h.counted hr).after_devices hn

/-! ### Its final cycle (R1551) -/

/-- In its final cycle a sequence completes, after the poll and the count (R400). -/
theorem advanceInflight_seq_final {s : State} {r : Inflight} {q : SeqKind} (hr : s.cpu.inflight = some r)
    (hk : r.kind = .seq q) (ht : r.elapsed + 1 = r.total) :
    ∃ r', advanceInflight s = .next (completeSeq q r' (countElapsed (pollAtEntry r s))) := by
  obtain ⟨c, hit, hcounted, -, hc⟩ := counted_eq r s hr
  refine ⟨{ r with hijacked := hit, elapsed := r.elapsed + 1 }, ?_⟩
  simp only [advanceInflight, hr, hcounted, hc, ht, if_true, complete, hk]

/-- The completion loads PC from the vector, which is in cartridge space. -/
theorem completeSeq_reset (r : Inflight) (s : State) : completeSeq .reset r s =
    endsAt (word16 (s.cart.cpuRead 0xFFFC) (s.cart.cpuRead 0xFFFD)) s := by
  rw [completeSeq, seqEffect, read16_cart (vec := resetVector) (by decide) (by decide)]
  rfl

/-- The state after the sequence: PC from the vector of `cart`, the registers of the power cycle, nothing in
flight, no mark, and the devices after seven cycles. -/
structure Booted (cart : Cart) (t : State) : Prop extends DevicesBooting cart 7 t where
  pc : t.cpu.pc = word16 (cart.cpuRead 0xFFFC) (cart.cpuRead 0xFFFD)
  regs : t.cpu.regs = Cpu.powerUp.regs
  inflight : t.cpu.inflight = none
  fault : t.fault = none
  refused : t.refused = none

theorem Booting.last {cart : Cart} {m : State} (h : Booting cart 6 6 m) : Booted cart (cycleState m) := by
  obtain ⟨hit, hr⟩ := h.record
  obtain ⟨r', hfinal⟩ := advanceInflight_seq_final hr rfl rfl
  have hv := h.counted hr
  rw [cycleState, h.cycle_eq, hfinal, completeSeq_reset, hv.cartridge]
  generalize countElapsed _ = v at hv
  generalize hpc : word16 (cart.cpuRead 0xFFFC) (cart.cpuRead 0xFFFD) = pc
  have hkept := afterCpu_kept (endsAt pc v)
  have hdevices : DevicesBooting cart 6 (endsAt pc v) := ⟨hv.cartridge, hv.time, hv.ppu, hv.apu⟩
  exact { hdevices.afterCpu (by decide) with
    pc := hkept.pc.trans hpc.symm
    regs := hkept.regs.trans hv.regs
    inflight := hkept.inflight
    fault := hkept.fault.trans hv.fault
    refused := hkept.refused.trans hv.refused }

theorem runCycles_succ (n : Nat) (s : State) : runCycles (n + 1) s = cycleState (runCycles n s) := by
  induction n generalizing s with
  | zero => rfl
  | succ n ih => exact ih (cycleState s)

theorem Booting.after_cycles {cart : Cart} {s : State} (h : Booting cart 0 0 s) {n : Nat} (hn : n ≤ 6) :
    Booting cart n n (runCycles n s) := by
  induction n with
  | zero => exact h
  | succ n ih =>
    rw [runCycles_succ]
    exact (ih (by omega)).after_cycle (by omega) (by omega)

/-- Settles O3: six cycles count the RESET sequence, and the seventh completes it. -/
theorem bootAfterSevenCycles : Obligations.BootAfterSevenCycles := by
  intro fill cart host s0 s
  have hlast : s = cycleState (runCycles 6 s0) := runCycles_succ 6 s0
  have hs : Booted (cart.powerUp fill) s :=
    hlast ▸ ((booting_powerCycle fill cart host).after_cycles le_rfl).last
  clear_value s
  have hvector : (read16 0xFFFC s0).1 = word16 (s0.cart.cpuRead 0xFFFC) (s0.cart.cpuRead 0xFFFD) :=
    congrArg Prod.fst (read16_cart (vec := 0xFFFC) (by decide) (by decide) s0)
  have hregs := hs.regs
  simp only [Cpu.regs, Regs.mk.injEq] at hregs
  obtain ⟨ha, hx, hy, hsp, hp⟩ := hregs
  exact ⟨hs.pc.trans hvector.symm, ha, hx, hy, hsp, hp, hs.inflight, hs.apu.p1, hs.apu.p2, hs.apu.tri,
    hs.apu.noise, apuStatusByte_quiet _ hs.apu, hs.ppu.line, hs.ppu.dot, hs.time, hs.fault, hs.refused⟩

end Sys2Proof.Machine
